-- ==== Sys2Proof/Word.lean ====
section
/-! DEFINITION. The two word widths of the Heathkit 3401 MPU (00_scope.md R5). -/

namespace Sys2Proof

/-- The addressable unit and the width of ACCA and ACCB: 8 bits (00_scope.md R5, BYTE and XLEN_ACC). -/
abbrev Byte := BitVec 8

/-- The width of IX, SP, PC and of an address: 16 bits (00_scope.md R5, XLEN_IX, XLEN_SP, XLEN_PC, ADDR_BITS). -/
abbrev Word := BitVec 16

end Sys2Proof
end

