-- ==== Sys2Proof/Config.lean ====
section
/-! DEFINITION. The parameters of the machine (00_scope.md R5) and the values the spec leaves open.
An `opaque` constant has no body that a proof can see: a statement about it holds for every value. -/

namespace Sys2Proof

/-- What a read of memory is for: an instruction byte, or an operand, stack or pointer byte. -/
inductive AccessKind where
  | fetch
  | data
deriving DecidableEq, Repr

/-- `n`, the address with all address lines high (R5, 92_eei_decisions.md D1). -/
def Config.topAddress : Word := 0xFFFF

/-- RESET_PC: none by default, so PC after reset comes from the reset pointer (R5, D9). -/
def Config.resetPc : Option Word := none

/-- What a memory byte reads as that neither the platform's image lists nor the MPU has written.
DESIGN CHOICE, unsafe (entry 2): the spec gives RAM no contents after power-on (10_state.md R38). -/
def Config.unlistedByte : Byte := 0x00

/-- CLR_READS_FIRST: whether CLR of a memory byte reads it first (20_memory.md R57, D14). -/
def Config.clrReadsFirst : Bool := false

/-- IRQ_DELAY_AFTER_UNMASK, OPEN over 0 and 1 (60_exceptions.md R303, D7): `true` stands for 1. Entry 6, safe. -/
opaque Config.irqDelayAfterUnmask : Bool

/-- The value read at a location that holds no data the MPU owns: unpopulated, or a device's (20_memory.md
R58, U8). A free value: it may differ at every step, for every kind of access and at every address. Entry 4. -/
opaque Config.openLocation : Nat → AccessKind → Word → Byte

/-- V after DAA, "Not defined" (42_accumulator_inherent.md R185, U1). A free value, fresh at every step. Entry 8. -/
opaque Config.daaV : Nat → Bool

/-- ACCA after DAA outside its table (R185, U2, D5). A free value, fresh at every step. Entry 8. -/
opaque Config.daaOutsideA : Nat → Byte

/-- N after DAA outside its table (R185, U2, D5). A free value. Entry 8. -/
opaque Config.daaOutsideN : Nat → Bool

/-- Z after DAA outside its table (R185, U2, D5). A free value. Entry 8. -/
opaque Config.daaOutsideZ : Nat → Bool

/-- C after DAA outside its table (R185, U2, D5). A free value. Entry 8. -/
opaque Config.daaOutsideC : Nat → Bool

/-- The time of reset, not given by the source (70_reset_and_hazards.md R345, U12). Entry 13. -/
opaque Config.resetCycles : Nat

/-- The time of an interrupt entry, not given by the source (R345, U12). Entry 13. -/
opaque Config.irqEntryCycles : Nat

/-- The time of a resumption from WAI, not given by the source (R345, U12). Entry 13. -/
opaque Config.irqResumeCycles : Nat

/-- The time one step of waiting takes, not given by the source: "the wait itself is unbounded" (R345). Entry 13. -/
opaque Config.waitCycles : Nat → Nat

end Sys2Proof
end

