-- ==== Sys2Proof/Machine/Bits.lean ====
section
/-! DEFINITION. Halves of a 16-bit quantity and the two extensions of a byte (00_scope.md R6, R8). -/

namespace Sys2Proof.Machine

/-- `v[15:8]`, the source's IXH, SPH, PCH (R6). -/
def hi8 (w : Word) : Byte := w.extractLsb' 8 8

/-- `v[7:0]`, the source's IXL, SPL, PCL (R6). -/
def lo8 (w : Word) : Byte := w.extractLsb' 0 8

/-- `hi : lo`, a 16-bit quantity from its bytes, the more significant one first (R8, 20_memory.md R51). -/
def wordOf (hi lo : Byte) : Word := hi ++ lo

/-- `zext_16` (R8). -/
def zext16 (b : Byte) : Word := b.setWidth 16

/-- `sext_16`: bit 7 copied into bits 15..8 (R8). -/
def sext16 (b : Byte) : Word := b.signExtend 16

end Sys2Proof.Machine
end

