-- ==== Sys2Proof/Machine/Memory.lean ====
section
/-! DEFINITION. The one address space of 65536 bytes (10_state.md R36, 20_memory.md R50): its contents as a
canonical list of cells, the platform's memory map (R58), and the two byte accesses. -/

namespace Sys2Proof.Machine

/-- Memory contents: (address, byte) pairs, addresses strictly rising, no byte equal to what an unlisted address
reads as. -/
abbrev Memory := List Host.Cell

/-- The byte an address holds. -/
def Memory.get : Memory → Nat → Byte
  | [], _ => Config.unlistedByte
  | (k, v) :: rest, a => if k = a then v else Memory.get rest a

/-- The cells of every other address. -/
def Memory.without (m : Memory) (a : Nat) : Memory := m.filter fun cell => cell.1 != a

/-- A cell put before the first one with a greater address. -/
def Memory.insert : Memory → Nat → Byte → Memory
  | [], a, v => [(a, v)]
  | (k, u) :: rest, a, v => if a < k then (a, v) :: (k, u) :: rest else (k, u) :: Memory.insert rest a v

/-- Storing a byte, keeping the canonical form: storing what an unlisted address reads as leaves no cell. -/
def Memory.set (m : Memory) (a : Nat) (v : Byte) : Memory :=
  if v = Config.unlistedByte then m.without a else (m.without a).insert a v

/-- The canonical form of the cells from address `low` on. -/
def Memory.wfFrom : Nat → Memory → Bool
  | _, [] => true
  | low, (k, v) :: rest =>
    decide (low ≤ k) && decide (k < 65536) && decide (v ≠ Config.unlistedByte) && Memory.wfFrom (k + 1) rest

/-- The canonical form: addresses strictly rising and below 65536, no cell that an unlisted address equals. -/
def Memory.wf (m : Memory) : Bool := Memory.wfFrom 0 m

/-- What stands at an address (00_scope.md R5, MEMORY_MAP). -/
inductive LocationKind where
  | ram
  | rom
  | device
  | unpopulated
deriving DecidableEq, Repr

/-- A run of addresses `first` to `last`, both included, of one kind. -/
structure Region where
  first : Nat
  last : Nat
  kind : LocationKind
deriving DecidableEq, Repr

/-- A platform's memory map; an address in no region is unpopulated, the first region that holds it decides. -/
abbrev MemoryMap := List Region

/-- The kind of an address: RAM everywhere when no map is supplied (D15). -/
def kindAt : Option MemoryMap → Word → LocationKind
  | none, _ => .ram
  | some regions, a =>
    match regions.find? (fun r => decide (r.first ≤ a.toNat) && decide (a.toNat ≤ r.last)) with
    | some r => r.kind
    | none => .unpopulated

/-- The locations whose contents memory holds: RAM and ROM. -/
def LocationKind.holdsData : LocationKind → Bool
  | .ram => true
  | .rom => true
  | .device => false
  | .unpopulated => false

/-- Reading one byte. An unpopulated location returns any value (D15, U8); so does a device's, whose behaviour no
source describes (20_memory.md R57; entry 3). No read faults (60_exceptions.md R310). -/
def readLocation (map : Option MemoryMap) (mem : Memory) (tick : Nat) (kind : AccessKind) (a : Word) : Byte :=
  if (kindAt map a).holdsData then mem.get a.toNat else Config.openLocation tick kind a

/-- Writing one byte. Only RAM keeps it: a write to ROM or to an unpopulated location has no effect (D15, U9), and
what a device does with one is outside the memory (entry 3). No write faults (R310). -/
def storeLocation (map : Option MemoryMap) (mem : Memory) (a : Word) (v : Byte) : Memory :=
  if kindAt map a = .ram then mem.set a.toNat v else mem

/-- The internal interrupt pointer, n-7 (high byte) and n-6 (60_exceptions.md R306, IRQ_VECTOR of R5). -/
def irqPointer : Word := Config.topAddress - 7

/-- The software interrupt pointer, n-5 (high byte) and n-4 (R306, SWI_VECTOR of R5). -/
def swiPointer : Word := Config.topAddress - 5

/-- The reset pointer, n-1 (high byte) and n (70_reset_and_hazards.md R340, RESET_VECTOR of R5; general knowledge). -/
def resetPointer : Word := Config.topAddress - 1

end Sys2Proof.Machine
end

