-- ==== Sys2Proof/Machine/State.lean ====
section
/-! DEFINITION. The whole state of the machine (10_state.md R20, R36, R37), the reasons a step can stop, and the
state after reset (70_reset_and_hazards.md R340). -/

namespace Sys2Proof.Machine

/-- The condition codes register: six implemented bits, each 0 or 1 independently (10_state.md R26). Bits 7 and 6 of
the byte it is presented as are no state (R27). -/
structure CC where
  /-- bit 5, half carry (R28) -/
  h : Bool
  /-- bit 4, interrupt mask (R29) -/
  i : Bool
  /-- bit 3, negative (R30) -/
  n : Bool
  /-- bit 2, zero (R31) -/
  z : Bool
  /-- bit 1, two's complement overflow (R32) -/
  v : Bool
  /-- bit 0, carry - borrow (R33) -/
  c : Bool
deriving DecidableEq, Repr

/-- Faults: there are none. The source defines no synchronous exception for an opcode, an address, an alignment, an
arithmetic result or a stack limit (60_exceptions.md R310, 00_scope.md R15), so no step ends in a fault (entry 17). -/
inductive Fault where
deriving DecidableEq, Repr

/-- Refusals: the outcomes for which the spec defines no successor state. -/
inductive Refusal where
  /-- Raised by `exec` for an instruction that has no meaning yet; no arm of this model does. Safe. -/
  | notModelled (mnemonic : String)
  /-- Raised by `step` when the byte at PC is one of the 59 unassigned ones: "the model refuses", it is not a trap
  (30_encoding.md R91, 92_eei_decisions.md D4). Safe: the run stops where the hardware would go on. -/
  | illegalOpcode (op : Byte)
deriving DecidableEq, Repr

/-- The state: what the spec gives the machine, then the inputs and parameters it reads, then the model's own. -/
structure State where
  /-- ACCA, `x[A]` (R21) -/
  accA : Byte
  /-- ACCB, `x[B]` (R22) -/
  accB : Byte
  /-- IX, the index register (R23) -/
  ix : Word
  /-- SP, the address of the next empty location in the stack (R24) -/
  sp : Word
  /-- PC, the program counter (R25) -/
  pc : Word
  /-- CC, the condition codes register (R26) -/
  cc : CC
  /-- the suspended state of WAI (R37 item 1, 47_interrupt_instructions.md R291) -/
  waiting : Bool
  /-- the contents of the 65536 locations (R36) -/
  mem : Memory
  /-- the level of the interrupt request input at the coming steps, the next one first (R37 item 2, R302); when
  the list has run out no request is signalled (entry 5) -/
  irqLine : List Bool
  /-- the parameter MEMORY_MAP; `none` when no map is supplied (00_scope.md R5, 20_memory.md R58) -/
  map : Option MemoryMap
  /-- whether the previous instruction was a CLI or TAP that left I = 0 (60_exceptions.md R303) -/
  afterUnmask : Bool
  /-- the MODEL's counter of begun steps, the argument of the free values (entry 4) -/
  tick : Nat
  /-- the MODEL's count of time: reset, then every step (70_reset_and_hazards.md R344, R345; entry 13) -/
  cycles : Nat
deriving DecidableEq, Repr

/-- The outcome of an instruction or a step. -/
abbrev Result := Host.Outcome State Fault Refusal

/-- The start state of R340 and 10_state.md R38: I = 1, waiting = 0, PC from RESET_PC when it is given and from the
reset pointer otherwise, memory as the platform loaded it. The spec gives ACCA, ACCB, IX, SP, H, N, Z, V, C no
value: DESIGN CHOICE zero, unsafe (entry 1). The interrupt request schedule is the environment's (entry 5), the time of
reset an open parameter (R345; entry 13). -/
def State.powerOn (resetPc : Option Word) (map : Option MemoryMap) (image : Memory) (irqLine : List Bool) : State :=
  { accA := 0x00, accB := 0x00, ix := 0x0000, sp := 0x0000
    pc := match resetPc with
      | some p => p
      | none => wordOf (readLocation map image 0 .data resetPointer) (readLocation map image 0 .data (resetPointer + 1))
    cc := { h := false, i := true, n := false, z := false, v := false, c := false }
    waiting := false, mem := image, irqLine := irqLine, map := map, afterUnmask := false, tick := 0,
    cycles := Config.resetCycles }

/-- The machine right after reset, nothing placed in memory, no map supplied, no request signalled. -/
def State.reset : State := State.powerOn Config.resetPc none [] []

end Sys2Proof.Machine
end

