-- ==== Sys2Proof/Machine/Flags.lean ====
section
/-! DEFINITION. The condition codes as a byte, the 8-bit sum and difference with their flags, and the flag updates
the instruction families share (00_scope.md R9 to R11, 10_state.md R26 to R33). -/

namespace Sys2Proof.Machine

/-- `CCbyte()`: 1 1 H I N Z V C (10_state.md R27). -/
def CC.toByte (c : CC) : Byte :=
  0b11#2 ++ BitVec.ofBool c.h ++ BitVec.ofBool c.i ++ BitVec.ofBool c.n ++ BitVec.ofBool c.z ++
    BitVec.ofBool c.v ++ BitVec.ofBool c.c

/-- `SetCC(b)`: bits 5..0 of the byte, bits 7 and 6 ignored (R27). -/
def CC.ofByte (b : Byte) : CC :=
  { h := b.getLsbD 5, i := b.getLsbD 4, n := b.getLsbD 3, z := b.getLsbD 2, v := b.getLsbD 1, c := b.getLsbD 0 }

/-- A result with the flags an 8-bit addition or subtraction gives; `h` is meant for an addition only. -/
structure Arith8 where
  val : Byte
  h : Bool
  n : Bool
  z : Bool
  v : Bool
  c : Bool
deriving DecidableEq, Repr

/-- `add8(x, m, cin)` (R10). -/
def add8 (x m : Byte) (cin : Bool) : Arith8 :=
  let sum := x.toNat + m.toNat + cin.toNat
  let r := BitVec.ofNat 8 sum
  { val := r
    h := decide (x.toNat % 16 + m.toNat % 16 + cin.toNat > 15)
    n := r.msb
    z := r == 0
    v := x.msb == m.msb && r.msb != x.msb
    c := decide (sum > 255) }

/-- `sub8(x, m, bin)` (R11). H is not part of it: `h` is given as `false` and no update reads it. -/
def sub8 (x m : Byte) (bin : Bool) : Arith8 :=
  let d : Int := (x.toNat : Int) - (m.toNat : Int) - (bin.toNat : Int)
  let r := BitVec.ofInt 8 d
  { val := r
    h := false
    n := r.msb
    z := r == 0
    v := x.msb != m.msb && r.msb != x.msb
    c := decide (d < 0) }

/-- Flags of ABA, ADC, ADD: H, N, Z, V, C from the sum, I unchanged (10_state.md R34). -/
def CC.ofSum (c : CC) (o : Arith8) : CC := { c with h := o.h, n := o.n, z := o.z, v := o.v, c := o.c }

/-- Flags of CBA, CMP, SBA, SBC, SUB, NEG: N, Z, V, C from the difference, H and I unchanged (R34). -/
def CC.ofDifference (c : CC) (o : Arith8) : CC := { c with n := o.n, z := o.z, v := o.v, c := o.c }

/-- `nz8` and V cleared: the logical, load, store and transfer instructions (R9, R34). -/
def CC.ofByteResult (c : CC) (r : Byte) : CC := { c with n := r.msb, z := r == 0, v := false }

/-- `nz16` and V cleared: LDS, LDX, STS, STX (R9, R34). -/
def CC.ofWordResult (c : CC) (r : Word) : CC := { c with n := r.msb, z := r == 0, v := false }

/-- N, Z and a given V: INC and DEC, which leave C (41_single_operand.md R155, R156). -/
def CC.ofCount (c : CC) (r : Byte) (v : Bool) : CC := { c with n := r.msb, z := r == 0, v := v }

/-- The shifts and rotates: C the bit shifted out, V = N xor C after the operation (R151, R152, R157, R159, R160). -/
def CC.ofShift (c : CC) (r : Byte) (out : Bool) : CC :=
  { c with n := r.msb, z := r == 0, v := r.msb != out, c := out }

/-- CPX: N and V of the high-byte subtraction without borrow from the low bytes, Z of both, C unchanged
(43_index_and_stack_pointer.md R201, D11). -/
def CC.ofIndexCompare (c : CC) (ix m : Word) : CC :=
  let hi := sub8 (hi8 ix) (hi8 m) false
  let lo := sub8 (lo8 ix) (lo8 m) false
  { c with n := hi.n, z := hi.z && lo.z, v := hi.v }

end Sys2Proof.Machine
end

