-- ==== Sys2Proof/Syntax.lean ====
section
/-! DEFINITION. The 197 instructions: one constructor per opcode of the map (30_encoding.md R90), that is one per
row of spec/opcode_table.json. A constructor carries the operand field of its format (R81): `imm` the immediate
byte or word (R84), `addr` a direct address byte (R85) or an extended address (R86), `offset` the unsigned
indexed offset (R87), `rel` the two's complement displacement (R88). A or B in a name is the accumulator. -/

namespace Sys2Proof

/-- The instruction set (R1, R90). -/
inductive Instr where
  -- Accumulator and memory (40_accumulator_memory.md)
  | adcAImm (imm : Byte)
  | adcADir (addr : Byte)
  | adcAInd (offset : Byte)
  | adcAExt (addr : Word)
  | adcBImm (imm : Byte)
  | adcBDir (addr : Byte)
  | adcBInd (offset : Byte)
  | adcBExt (addr : Word)
  | addAImm (imm : Byte)
  | addADir (addr : Byte)
  | addAInd (offset : Byte)
  | addAExt (addr : Word)
  | addBImm (imm : Byte)
  | addBDir (addr : Byte)
  | addBInd (offset : Byte)
  | addBExt (addr : Word)
  | andAImm (imm : Byte)
  | andADir (addr : Byte)
  | andAInd (offset : Byte)
  | andAExt (addr : Word)
  | andBImm (imm : Byte)
  | andBDir (addr : Byte)
  | andBInd (offset : Byte)
  | andBExt (addr : Word)
  | bitAImm (imm : Byte)
  | bitADir (addr : Byte)
  | bitAInd (offset : Byte)
  | bitAExt (addr : Word)
  | bitBImm (imm : Byte)
  | bitBDir (addr : Byte)
  | bitBInd (offset : Byte)
  | bitBExt (addr : Word)
  | cmpAImm (imm : Byte)
  | cmpADir (addr : Byte)
  | cmpAInd (offset : Byte)
  | cmpAExt (addr : Word)
  | cmpBImm (imm : Byte)
  | cmpBDir (addr : Byte)
  | cmpBInd (offset : Byte)
  | cmpBExt (addr : Word)
  | eorAImm (imm : Byte)
  | eorADir (addr : Byte)
  | eorAInd (offset : Byte)
  | eorAExt (addr : Word)
  | eorBImm (imm : Byte)
  | eorBDir (addr : Byte)
  | eorBInd (offset : Byte)
  | eorBExt (addr : Word)
  | ldaAImm (imm : Byte)
  | ldaADir (addr : Byte)
  | ldaAInd (offset : Byte)
  | ldaAExt (addr : Word)
  | ldaBImm (imm : Byte)
  | ldaBDir (addr : Byte)
  | ldaBInd (offset : Byte)
  | ldaBExt (addr : Word)
  | oraAImm (imm : Byte)
  | oraADir (addr : Byte)
  | oraAInd (offset : Byte)
  | oraAExt (addr : Word)
  | oraBImm (imm : Byte)
  | oraBDir (addr : Byte)
  | oraBInd (offset : Byte)
  | oraBExt (addr : Word)
  | sbcAImm (imm : Byte)
  | sbcADir (addr : Byte)
  | sbcAInd (offset : Byte)
  | sbcAExt (addr : Word)
  | sbcBImm (imm : Byte)
  | sbcBDir (addr : Byte)
  | sbcBInd (offset : Byte)
  | sbcBExt (addr : Word)
  | subAImm (imm : Byte)
  | subADir (addr : Byte)
  | subAInd (offset : Byte)
  | subAExt (addr : Word)
  | subBImm (imm : Byte)
  | subBDir (addr : Byte)
  | subBInd (offset : Byte)
  | subBExt (addr : Word)
  | staADir (addr : Byte)
  | staAInd (offset : Byte)
  | staAExt (addr : Word)
  | staBDir (addr : Byte)
  | staBInd (offset : Byte)
  | staBExt (addr : Word)
  -- Single operand (41_single_operand.md)
  | aslA
  | aslB
  | aslInd (offset : Byte)
  | aslExt (addr : Word)
  | asrA
  | asrB
  | asrInd (offset : Byte)
  | asrExt (addr : Word)
  | clrA
  | clrB
  | clrInd (offset : Byte)
  | clrExt (addr : Word)
  | comA
  | comB
  | comInd (offset : Byte)
  | comExt (addr : Word)
  | decA
  | decB
  | decInd (offset : Byte)
  | decExt (addr : Word)
  | incA
  | incB
  | incInd (offset : Byte)
  | incExt (addr : Word)
  | lsrA
  | lsrB
  | lsrInd (offset : Byte)
  | lsrExt (addr : Word)
  | negA
  | negB
  | negInd (offset : Byte)
  | negExt (addr : Word)
  | rolA
  | rolB
  | rolInd (offset : Byte)
  | rolExt (addr : Word)
  | rorA
  | rorB
  | rorInd (offset : Byte)
  | rorExt (addr : Word)
  | tstA
  | tstB
  | tstInd (offset : Byte)
  | tstExt (addr : Word)
  -- Accumulator to accumulator, decimal adjust, accumulator stack (42_accumulator_inherent.md)
  | aba
  | cba
  | sba
  | tab
  | tba
  | daa
  | pshA
  | pshB
  | pulA
  | pulB
  -- Index register and stack pointer (43_index_and_stack_pointer.md)
  | cpxImm (imm : Word)
  | cpxDir (addr : Byte)
  | cpxInd (offset : Byte)
  | cpxExt (addr : Word)
  | ldsImm (imm : Word)
  | ldsDir (addr : Byte)
  | ldsInd (offset : Byte)
  | ldsExt (addr : Word)
  | ldxImm (imm : Word)
  | ldxDir (addr : Byte)
  | ldxInd (offset : Byte)
  | ldxExt (addr : Word)
  | stsDir (addr : Byte)
  | stsInd (offset : Byte)
  | stsExt (addr : Word)
  | stxDir (addr : Byte)
  | stxInd (offset : Byte)
  | stxExt (addr : Word)
  | des
  | dex
  | ins
  | inx
  | tsx
  | txs
  -- Branches (44_branch.md)
  | bra (rel : Byte)
  | bcc (rel : Byte)
  | bcs (rel : Byte)
  | beq (rel : Byte)
  | bge (rel : Byte)
  | bgt (rel : Byte)
  | bhi (rel : Byte)
  | ble (rel : Byte)
  | bls (rel : Byte)
  | blt (rel : Byte)
  | bmi (rel : Byte)
  | bne (rel : Byte)
  | bpl (rel : Byte)
  | bvc (rel : Byte)
  | bvs (rel : Byte)
  | bsr (rel : Byte)
  -- Jumps and subroutines (45_jump_and_subroutine.md)
  | jmpInd (offset : Byte)
  | jmpExt (addr : Word)
  | jsrInd (offset : Byte)
  | jsrExt (addr : Word)
  | rts
  -- Condition codes and NOP (46_condition_code_and_nop.md)
  | clc
  | cli
  | clv
  | sec
  | sei
  | sev
  | tap
  | tpa
  | nop
  -- Interrupt instructions (47_interrupt_instructions.md)
  | swi
  | wai
  | rti
deriving DecidableEq, Repr

end Sys2Proof
end

