-- ==== Sys2Proof/Machine/Forms.lean ====
section
/-! DEFINITION. Operand shapes: the mnemonics, the addressing modes as data, the instruction that each mnemonic and
operand name together, and the shape of each instruction (30_encoding.md R81 to R88, Tables A-1 to A-8). -/

namespace Sys2Proof.Machine

/-- ACCX: the accumulator an opcode names (00_scope.md R16). -/
inductive Acc where
  | a
  | b
deriving DecidableEq, Repr

/-- A memory operand in DIRect, EXTended or INDexed mode (R85, R86, R87). -/
inductive Ea where
  | dir (addr : Byte)
  | ext (addr : Word)
  | ind (offset : Byte)
deriving DecidableEq, Repr

/-- A memory operand in EXTended or INDexed mode, the modes of Tables A-3 and A-7. -/
inductive Far where
  | ext (addr : Word)
  | ind (offset : Byte)
deriving DecidableEq, Repr

/-- The second operand of Table A-1: an immediate byte or a byte of memory (40_accumulator_memory.md R120). -/
inductive Src8 where
  | imm (b : Byte)
  | mem (e : Ea)
deriving DecidableEq, Repr

/-- The operand of Table A-5: an immediate word or two bytes of memory (43_index_and_stack_pointer.md R200). -/
inductive Src16 where
  | imm (w : Word)
  | mem (e : Ea)
deriving DecidableEq, Repr

/-- The operand of Table A-3: an accumulator or a byte of memory (41_single_operand.md R150). -/
inductive Place where
  | acc (r : Acc)
  | mem (f : Far)
deriving DecidableEq, Repr

/-- The 72 mnemonics (R90). -/
inductive Mnemonic where
  | adc | add | and | bit | cmp | eor | lda | ora | sbc | sub | sta
  | asl | asr | clr | com | dec | inc | lsr | neg | rol | ror | tst
  | aba | cba | sba | tab | tba | daa | psh | pul
  | cpx | lds | ldx | sts | stx | des | dex | ins | inx | tsx | txs
  | bra | bcc | bcs | beq | bge | bgt | bhi | ble | bls | blt | bmi | bne | bpl | bvc | bvs | bsr
  | jmp | jsr | rts
  | clc | cli | clv | sec | sei | sev | tap | tpa | nop
  | swi | wai | rti
deriving DecidableEq, Repr

/-- An instruction as a mnemonic and its operand, by the assembler table it belongs to (R95 to R99). -/
inductive Shape where
  /-- no operand (R82) -/
  | inherent (m : Mnemonic)
  /-- an accumulator and a byte, Table A-1 -/
  | dual (m : Mnemonic) (r : Acc) (src : Src8)
  /-- STA, Table A-2 -/
  | storeAcc (r : Acc) (e : Ea)
  /-- an accumulator or a byte of memory, Table A-3 -/
  | single (m : Mnemonic) (p : Place)
  /-- PSH and PUL, Table A-4 -/
  | stack (m : Mnemonic) (r : Acc)
  /-- CPX, LDS, LDX, Table A-5 -/
  | load16 (m : Mnemonic) (src : Src16)
  /-- STS, STX, Table A-6 -/
  | store16 (m : Mnemonic) (e : Ea)
  /-- JMP, JSR, Table A-7 -/
  | jump (m : Mnemonic) (f : Far)
  /-- the relative branches, Table A-8 -/
  | branch (m : Mnemonic) (rel : Byte)
deriving DecidableEq, Repr

/-- The mnemonic of a shape. -/
def Shape.mnemonic : Shape → Mnemonic
  | .inherent m => m
  | .dual m _ _ => m
  | .storeAcc _ _ => .sta
  | .single m _ => m
  | .stack m _ => m
  | .load16 m _ => m
  | .store16 m _ => m
  | .jump m _ => m
  | .branch m _ => m

/-- The forms of ADC (R121). -/
def adcForm : Acc → Src8 → Instr
  | .a, .imm imm => .adcAImm imm
  | .a, .mem (.dir addr) => .adcADir addr
  | .a, .mem (.ind offset) => .adcAInd offset
  | .a, .mem (.ext addr) => .adcAExt addr
  | .b, .imm imm => .adcBImm imm
  | .b, .mem (.dir addr) => .adcBDir addr
  | .b, .mem (.ind offset) => .adcBInd offset
  | .b, .mem (.ext addr) => .adcBExt addr

/-- The forms of ADD (R122). -/
def addForm : Acc → Src8 → Instr
  | .a, .imm imm => .addAImm imm
  | .a, .mem (.dir addr) => .addADir addr
  | .a, .mem (.ind offset) => .addAInd offset
  | .a, .mem (.ext addr) => .addAExt addr
  | .b, .imm imm => .addBImm imm
  | .b, .mem (.dir addr) => .addBDir addr
  | .b, .mem (.ind offset) => .addBInd offset
  | .b, .mem (.ext addr) => .addBExt addr

/-- The forms of AND (R123). -/
def andForm : Acc → Src8 → Instr
  | .a, .imm imm => .andAImm imm
  | .a, .mem (.dir addr) => .andADir addr
  | .a, .mem (.ind offset) => .andAInd offset
  | .a, .mem (.ext addr) => .andAExt addr
  | .b, .imm imm => .andBImm imm
  | .b, .mem (.dir addr) => .andBDir addr
  | .b, .mem (.ind offset) => .andBInd offset
  | .b, .mem (.ext addr) => .andBExt addr

/-- The forms of BIT (R124). -/
def bitForm : Acc → Src8 → Instr
  | .a, .imm imm => .bitAImm imm
  | .a, .mem (.dir addr) => .bitADir addr
  | .a, .mem (.ind offset) => .bitAInd offset
  | .a, .mem (.ext addr) => .bitAExt addr
  | .b, .imm imm => .bitBImm imm
  | .b, .mem (.dir addr) => .bitBDir addr
  | .b, .mem (.ind offset) => .bitBInd offset
  | .b, .mem (.ext addr) => .bitBExt addr

/-- The forms of CMP (R125). -/
def cmpForm : Acc → Src8 → Instr
  | .a, .imm imm => .cmpAImm imm
  | .a, .mem (.dir addr) => .cmpADir addr
  | .a, .mem (.ind offset) => .cmpAInd offset
  | .a, .mem (.ext addr) => .cmpAExt addr
  | .b, .imm imm => .cmpBImm imm
  | .b, .mem (.dir addr) => .cmpBDir addr
  | .b, .mem (.ind offset) => .cmpBInd offset
  | .b, .mem (.ext addr) => .cmpBExt addr

/-- The forms of EOR (R126). -/
def eorForm : Acc → Src8 → Instr
  | .a, .imm imm => .eorAImm imm
  | .a, .mem (.dir addr) => .eorADir addr
  | .a, .mem (.ind offset) => .eorAInd offset
  | .a, .mem (.ext addr) => .eorAExt addr
  | .b, .imm imm => .eorBImm imm
  | .b, .mem (.dir addr) => .eorBDir addr
  | .b, .mem (.ind offset) => .eorBInd offset
  | .b, .mem (.ext addr) => .eorBExt addr

/-- The forms of LDA (R127). -/
def ldaForm : Acc → Src8 → Instr
  | .a, .imm imm => .ldaAImm imm
  | .a, .mem (.dir addr) => .ldaADir addr
  | .a, .mem (.ind offset) => .ldaAInd offset
  | .a, .mem (.ext addr) => .ldaAExt addr
  | .b, .imm imm => .ldaBImm imm
  | .b, .mem (.dir addr) => .ldaBDir addr
  | .b, .mem (.ind offset) => .ldaBInd offset
  | .b, .mem (.ext addr) => .ldaBExt addr

/-- The forms of ORA (R128). -/
def oraForm : Acc → Src8 → Instr
  | .a, .imm imm => .oraAImm imm
  | .a, .mem (.dir addr) => .oraADir addr
  | .a, .mem (.ind offset) => .oraAInd offset
  | .a, .mem (.ext addr) => .oraAExt addr
  | .b, .imm imm => .oraBImm imm
  | .b, .mem (.dir addr) => .oraBDir addr
  | .b, .mem (.ind offset) => .oraBInd offset
  | .b, .mem (.ext addr) => .oraBExt addr

/-- The forms of SBC (R129). -/
def sbcForm : Acc → Src8 → Instr
  | .a, .imm imm => .sbcAImm imm
  | .a, .mem (.dir addr) => .sbcADir addr
  | .a, .mem (.ind offset) => .sbcAInd offset
  | .a, .mem (.ext addr) => .sbcAExt addr
  | .b, .imm imm => .sbcBImm imm
  | .b, .mem (.dir addr) => .sbcBDir addr
  | .b, .mem (.ind offset) => .sbcBInd offset
  | .b, .mem (.ext addr) => .sbcBExt addr

/-- The forms of SUB (R130). -/
def subForm : Acc → Src8 → Instr
  | .a, .imm imm => .subAImm imm
  | .a, .mem (.dir addr) => .subADir addr
  | .a, .mem (.ind offset) => .subAInd offset
  | .a, .mem (.ext addr) => .subAExt addr
  | .b, .imm imm => .subBImm imm
  | .b, .mem (.dir addr) => .subBDir addr
  | .b, .mem (.ind offset) => .subBInd offset
  | .b, .mem (.ext addr) => .subBExt addr

/-- The forms of STA (R131). -/
def staForm : Acc → Ea → Instr
  | .a, .dir addr => .staADir addr
  | .a, .ind offset => .staAInd offset
  | .a, .ext addr => .staAExt addr
  | .b, .dir addr => .staBDir addr
  | .b, .ind offset => .staBInd offset
  | .b, .ext addr => .staBExt addr

/-- The forms of ASL (R151). -/
def aslForm : Place → Instr
  | .acc .a => .aslA
  | .acc .b => .aslB
  | .mem (.ind offset) => .aslInd offset
  | .mem (.ext addr) => .aslExt addr

/-- The forms of ASR (R152). -/
def asrForm : Place → Instr
  | .acc .a => .asrA
  | .acc .b => .asrB
  | .mem (.ind offset) => .asrInd offset
  | .mem (.ext addr) => .asrExt addr

/-- The forms of CLR (R153). -/
def clrForm : Place → Instr
  | .acc .a => .clrA
  | .acc .b => .clrB
  | .mem (.ind offset) => .clrInd offset
  | .mem (.ext addr) => .clrExt addr

/-- The forms of COM (R154). -/
def comForm : Place → Instr
  | .acc .a => .comA
  | .acc .b => .comB
  | .mem (.ind offset) => .comInd offset
  | .mem (.ext addr) => .comExt addr

/-- The forms of DEC (R155). -/
def decForm : Place → Instr
  | .acc .a => .decA
  | .acc .b => .decB
  | .mem (.ind offset) => .decInd offset
  | .mem (.ext addr) => .decExt addr

/-- The forms of INC (R156). -/
def incForm : Place → Instr
  | .acc .a => .incA
  | .acc .b => .incB
  | .mem (.ind offset) => .incInd offset
  | .mem (.ext addr) => .incExt addr

/-- The forms of LSR (R157). -/
def lsrForm : Place → Instr
  | .acc .a => .lsrA
  | .acc .b => .lsrB
  | .mem (.ind offset) => .lsrInd offset
  | .mem (.ext addr) => .lsrExt addr

/-- The forms of NEG (R158). -/
def negForm : Place → Instr
  | .acc .a => .negA
  | .acc .b => .negB
  | .mem (.ind offset) => .negInd offset
  | .mem (.ext addr) => .negExt addr

/-- The forms of ROL (R159). -/
def rolForm : Place → Instr
  | .acc .a => .rolA
  | .acc .b => .rolB
  | .mem (.ind offset) => .rolInd offset
  | .mem (.ext addr) => .rolExt addr

/-- The forms of ROR (R160). -/
def rorForm : Place → Instr
  | .acc .a => .rorA
  | .acc .b => .rorB
  | .mem (.ind offset) => .rorInd offset
  | .mem (.ext addr) => .rorExt addr

/-- The forms of TST (R161). -/
def tstForm : Place → Instr
  | .acc .a => .tstA
  | .acc .b => .tstB
  | .mem (.ind offset) => .tstInd offset
  | .mem (.ext addr) => .tstExt addr

/-- The forms of PSH (R186). -/
def pshForm : Acc → Instr
  | .a => .pshA
  | .b => .pshB

/-- The forms of PUL (R187). -/
def pulForm : Acc → Instr
  | .a => .pulA
  | .b => .pulB

/-- The forms of CPX (R201). -/
def cpxForm : Src16 → Instr
  | .imm imm => .cpxImm imm
  | .mem (.dir addr) => .cpxDir addr
  | .mem (.ind offset) => .cpxInd offset
  | .mem (.ext addr) => .cpxExt addr

/-- The forms of LDS (R202). -/
def ldsForm : Src16 → Instr
  | .imm imm => .ldsImm imm
  | .mem (.dir addr) => .ldsDir addr
  | .mem (.ind offset) => .ldsInd offset
  | .mem (.ext addr) => .ldsExt addr

/-- The forms of LDX (R203). -/
def ldxForm : Src16 → Instr
  | .imm imm => .ldxImm imm
  | .mem (.dir addr) => .ldxDir addr
  | .mem (.ind offset) => .ldxInd offset
  | .mem (.ext addr) => .ldxExt addr

/-- The forms of STS (R204). -/
def stsForm : Ea → Instr
  | .dir addr => .stsDir addr
  | .ind offset => .stsInd offset
  | .ext addr => .stsExt addr

/-- The forms of STX (R205). -/
def stxForm : Ea → Instr
  | .dir addr => .stxDir addr
  | .ind offset => .stxInd offset
  | .ext addr => .stxExt addr

/-- The forms of JMP (R260). -/
def jmpForm : Far → Instr
  | .ind offset => .jmpInd offset
  | .ext addr => .jmpExt addr

/-- The forms of JSR (R261). -/
def jsrForm : Far → Instr
  | .ind offset => .jsrInd offset
  | .ext addr => .jsrExt addr

/-- The shape of every instruction: which mnemonic, which operand. -/
def shapeOf : Instr → Shape
  | .adcAImm imm => .dual .adc .a (.imm imm)
  | .adcADir addr => .dual .adc .a (.mem (.dir addr))
  | .adcAInd offset => .dual .adc .a (.mem (.ind offset))
  | .adcAExt addr => .dual .adc .a (.mem (.ext addr))
  | .adcBImm imm => .dual .adc .b (.imm imm)
  | .adcBDir addr => .dual .adc .b (.mem (.dir addr))
  | .adcBInd offset => .dual .adc .b (.mem (.ind offset))
  | .adcBExt addr => .dual .adc .b (.mem (.ext addr))
  | .addAImm imm => .dual .add .a (.imm imm)
  | .addADir addr => .dual .add .a (.mem (.dir addr))
  | .addAInd offset => .dual .add .a (.mem (.ind offset))
  | .addAExt addr => .dual .add .a (.mem (.ext addr))
  | .addBImm imm => .dual .add .b (.imm imm)
  | .addBDir addr => .dual .add .b (.mem (.dir addr))
  | .addBInd offset => .dual .add .b (.mem (.ind offset))
  | .addBExt addr => .dual .add .b (.mem (.ext addr))
  | .andAImm imm => .dual .and .a (.imm imm)
  | .andADir addr => .dual .and .a (.mem (.dir addr))
  | .andAInd offset => .dual .and .a (.mem (.ind offset))
  | .andAExt addr => .dual .and .a (.mem (.ext addr))
  | .andBImm imm => .dual .and .b (.imm imm)
  | .andBDir addr => .dual .and .b (.mem (.dir addr))
  | .andBInd offset => .dual .and .b (.mem (.ind offset))
  | .andBExt addr => .dual .and .b (.mem (.ext addr))
  | .bitAImm imm => .dual .bit .a (.imm imm)
  | .bitADir addr => .dual .bit .a (.mem (.dir addr))
  | .bitAInd offset => .dual .bit .a (.mem (.ind offset))
  | .bitAExt addr => .dual .bit .a (.mem (.ext addr))
  | .bitBImm imm => .dual .bit .b (.imm imm)
  | .bitBDir addr => .dual .bit .b (.mem (.dir addr))
  | .bitBInd offset => .dual .bit .b (.mem (.ind offset))
  | .bitBExt addr => .dual .bit .b (.mem (.ext addr))
  | .cmpAImm imm => .dual .cmp .a (.imm imm)
  | .cmpADir addr => .dual .cmp .a (.mem (.dir addr))
  | .cmpAInd offset => .dual .cmp .a (.mem (.ind offset))
  | .cmpAExt addr => .dual .cmp .a (.mem (.ext addr))
  | .cmpBImm imm => .dual .cmp .b (.imm imm)
  | .cmpBDir addr => .dual .cmp .b (.mem (.dir addr))
  | .cmpBInd offset => .dual .cmp .b (.mem (.ind offset))
  | .cmpBExt addr => .dual .cmp .b (.mem (.ext addr))
  | .eorAImm imm => .dual .eor .a (.imm imm)
  | .eorADir addr => .dual .eor .a (.mem (.dir addr))
  | .eorAInd offset => .dual .eor .a (.mem (.ind offset))
  | .eorAExt addr => .dual .eor .a (.mem (.ext addr))
  | .eorBImm imm => .dual .eor .b (.imm imm)
  | .eorBDir addr => .dual .eor .b (.mem (.dir addr))
  | .eorBInd offset => .dual .eor .b (.mem (.ind offset))
  | .eorBExt addr => .dual .eor .b (.mem (.ext addr))
  | .ldaAImm imm => .dual .lda .a (.imm imm)
  | .ldaADir addr => .dual .lda .a (.mem (.dir addr))
  | .ldaAInd offset => .dual .lda .a (.mem (.ind offset))
  | .ldaAExt addr => .dual .lda .a (.mem (.ext addr))
  | .ldaBImm imm => .dual .lda .b (.imm imm)
  | .ldaBDir addr => .dual .lda .b (.mem (.dir addr))
  | .ldaBInd offset => .dual .lda .b (.mem (.ind offset))
  | .ldaBExt addr => .dual .lda .b (.mem (.ext addr))
  | .oraAImm imm => .dual .ora .a (.imm imm)
  | .oraADir addr => .dual .ora .a (.mem (.dir addr))
  | .oraAInd offset => .dual .ora .a (.mem (.ind offset))
  | .oraAExt addr => .dual .ora .a (.mem (.ext addr))
  | .oraBImm imm => .dual .ora .b (.imm imm)
  | .oraBDir addr => .dual .ora .b (.mem (.dir addr))
  | .oraBInd offset => .dual .ora .b (.mem (.ind offset))
  | .oraBExt addr => .dual .ora .b (.mem (.ext addr))
  | .sbcAImm imm => .dual .sbc .a (.imm imm)
  | .sbcADir addr => .dual .sbc .a (.mem (.dir addr))
  | .sbcAInd offset => .dual .sbc .a (.mem (.ind offset))
  | .sbcAExt addr => .dual .sbc .a (.mem (.ext addr))
  | .sbcBImm imm => .dual .sbc .b (.imm imm)
  | .sbcBDir addr => .dual .sbc .b (.mem (.dir addr))
  | .sbcBInd offset => .dual .sbc .b (.mem (.ind offset))
  | .sbcBExt addr => .dual .sbc .b (.mem (.ext addr))
  | .subAImm imm => .dual .sub .a (.imm imm)
  | .subADir addr => .dual .sub .a (.mem (.dir addr))
  | .subAInd offset => .dual .sub .a (.mem (.ind offset))
  | .subAExt addr => .dual .sub .a (.mem (.ext addr))
  | .subBImm imm => .dual .sub .b (.imm imm)
  | .subBDir addr => .dual .sub .b (.mem (.dir addr))
  | .subBInd offset => .dual .sub .b (.mem (.ind offset))
  | .subBExt addr => .dual .sub .b (.mem (.ext addr))
  | .staADir addr => .storeAcc .a (.dir addr)
  | .staAInd offset => .storeAcc .a (.ind offset)
  | .staAExt addr => .storeAcc .a (.ext addr)
  | .staBDir addr => .storeAcc .b (.dir addr)
  | .staBInd offset => .storeAcc .b (.ind offset)
  | .staBExt addr => .storeAcc .b (.ext addr)
  | .aslA => .single .asl (.acc .a)
  | .aslB => .single .asl (.acc .b)
  | .aslInd offset => .single .asl (.mem (.ind offset))
  | .aslExt addr => .single .asl (.mem (.ext addr))
  | .asrA => .single .asr (.acc .a)
  | .asrB => .single .asr (.acc .b)
  | .asrInd offset => .single .asr (.mem (.ind offset))
  | .asrExt addr => .single .asr (.mem (.ext addr))
  | .clrA => .single .clr (.acc .a)
  | .clrB => .single .clr (.acc .b)
  | .clrInd offset => .single .clr (.mem (.ind offset))
  | .clrExt addr => .single .clr (.mem (.ext addr))
  | .comA => .single .com (.acc .a)
  | .comB => .single .com (.acc .b)
  | .comInd offset => .single .com (.mem (.ind offset))
  | .comExt addr => .single .com (.mem (.ext addr))
  | .decA => .single .dec (.acc .a)
  | .decB => .single .dec (.acc .b)
  | .decInd offset => .single .dec (.mem (.ind offset))
  | .decExt addr => .single .dec (.mem (.ext addr))
  | .incA => .single .inc (.acc .a)
  | .incB => .single .inc (.acc .b)
  | .incInd offset => .single .inc (.mem (.ind offset))
  | .incExt addr => .single .inc (.mem (.ext addr))
  | .lsrA => .single .lsr (.acc .a)
  | .lsrB => .single .lsr (.acc .b)
  | .lsrInd offset => .single .lsr (.mem (.ind offset))
  | .lsrExt addr => .single .lsr (.mem (.ext addr))
  | .negA => .single .neg (.acc .a)
  | .negB => .single .neg (.acc .b)
  | .negInd offset => .single .neg (.mem (.ind offset))
  | .negExt addr => .single .neg (.mem (.ext addr))
  | .rolA => .single .rol (.acc .a)
  | .rolB => .single .rol (.acc .b)
  | .rolInd offset => .single .rol (.mem (.ind offset))
  | .rolExt addr => .single .rol (.mem (.ext addr))
  | .rorA => .single .ror (.acc .a)
  | .rorB => .single .ror (.acc .b)
  | .rorInd offset => .single .ror (.mem (.ind offset))
  | .rorExt addr => .single .ror (.mem (.ext addr))
  | .tstA => .single .tst (.acc .a)
  | .tstB => .single .tst (.acc .b)
  | .tstInd offset => .single .tst (.mem (.ind offset))
  | .tstExt addr => .single .tst (.mem (.ext addr))
  | .aba => .inherent .aba
  | .cba => .inherent .cba
  | .sba => .inherent .sba
  | .tab => .inherent .tab
  | .tba => .inherent .tba
  | .daa => .inherent .daa
  | .pshA => .stack .psh .a
  | .pshB => .stack .psh .b
  | .pulA => .stack .pul .a
  | .pulB => .stack .pul .b
  | .cpxImm imm => .load16 .cpx (.imm imm)
  | .cpxDir addr => .load16 .cpx (.mem (.dir addr))
  | .cpxInd offset => .load16 .cpx (.mem (.ind offset))
  | .cpxExt addr => .load16 .cpx (.mem (.ext addr))
  | .ldsImm imm => .load16 .lds (.imm imm)
  | .ldsDir addr => .load16 .lds (.mem (.dir addr))
  | .ldsInd offset => .load16 .lds (.mem (.ind offset))
  | .ldsExt addr => .load16 .lds (.mem (.ext addr))
  | .ldxImm imm => .load16 .ldx (.imm imm)
  | .ldxDir addr => .load16 .ldx (.mem (.dir addr))
  | .ldxInd offset => .load16 .ldx (.mem (.ind offset))
  | .ldxExt addr => .load16 .ldx (.mem (.ext addr))
  | .stsDir addr => .store16 .sts (.dir addr)
  | .stsInd offset => .store16 .sts (.ind offset)
  | .stsExt addr => .store16 .sts (.ext addr)
  | .stxDir addr => .store16 .stx (.dir addr)
  | .stxInd offset => .store16 .stx (.ind offset)
  | .stxExt addr => .store16 .stx (.ext addr)
  | .des => .inherent .des
  | .dex => .inherent .dex
  | .ins => .inherent .ins
  | .inx => .inherent .inx
  | .tsx => .inherent .tsx
  | .txs => .inherent .txs
  | .bra rel => .branch .bra rel
  | .bcc rel => .branch .bcc rel
  | .bcs rel => .branch .bcs rel
  | .beq rel => .branch .beq rel
  | .bge rel => .branch .bge rel
  | .bgt rel => .branch .bgt rel
  | .bhi rel => .branch .bhi rel
  | .ble rel => .branch .ble rel
  | .bls rel => .branch .bls rel
  | .blt rel => .branch .blt rel
  | .bmi rel => .branch .bmi rel
  | .bne rel => .branch .bne rel
  | .bpl rel => .branch .bpl rel
  | .bvc rel => .branch .bvc rel
  | .bvs rel => .branch .bvs rel
  | .bsr rel => .branch .bsr rel
  | .jmpInd offset => .jump .jmp (.ind offset)
  | .jmpExt addr => .jump .jmp (.ext addr)
  | .jsrInd offset => .jump .jsr (.ind offset)
  | .jsrExt addr => .jump .jsr (.ext addr)
  | .rts => .inherent .rts
  | .clc => .inherent .clc
  | .cli => .inherent .cli
  | .clv => .inherent .clv
  | .sec => .inherent .sec
  | .sei => .inherent .sei
  | .sev => .inherent .sev
  | .tap => .inherent .tap
  | .tpa => .inherent .tpa
  | .nop => .inherent .nop
  | .swi => .inherent .swi
  | .wai => .inherent .wai
  | .rti => .inherent .rti

/-- The mnemonic of an instruction. -/
def mnemonicOf (i : Instr) : Mnemonic := (shapeOf i).mnemonic

end Sys2Proof.Machine
end

