-- ==== Sys2Proof/Machine/Ops.lean ====
section
/-! DEFINITION. The named operations over registers, memory and stack (00_scope.md R8, R13), taking an interrupt as
one shared operation and the return from one beside it (60_exceptions.md R301, R304, R306, R309). -/

namespace Sys2Proof.Machine

/-- `x[r]` (R8). -/
def State.acc (s : State) : Acc → Byte
  | .a => s.accA
  | .b => s.accB

/-- `x[r] <- v` (R8). -/
def State.setAcc (s : State) (r : Acc) (v : Byte) : State :=
  match r with
  | .a => { s with accA := v }
  | .b => { s with accB := v }

/-- `MemRead(a, 1)` of an operand, stack or pointer byte (R8). -/
def State.readByte (s : State) (a : Word) : Byte := readLocation s.map s.mem s.tick .data a

/-- `MemRead(a, 1)` of an instruction byte: the same memory and the same primitive (20_memory.md R65). -/
def State.fetchByte (s : State) (a : Word) : Byte := readLocation s.map s.mem s.tick .fetch a

/-- `MemWrite(a, 1, v)` (R8). -/
def State.writeByte (s : State) (a : Word) (v : Byte) : State := { s with mem := storeLocation s.map s.mem a v }

/-- `MemRead(a, 2)`: the high byte at a, the low byte at (a + 1) mod 65536 (R8, R51, R61). -/
def State.readWord (s : State) (a : Word) : Word := wordOf (s.readByte a) (s.readByte (a + 1))

/-- `MemWrite(a, 2, v)`: the high byte at a, then the low byte at (a + 1) mod 65536 (R8, R51, R61). -/
def State.writeWord (s : State) (a : Word) (v : Word) : State := (s.writeByte a (hi8 v)).writeByte (a + 1) (lo8 v)

/-- `Push8(v)`: write at SP, then decrement SP (R13). -/
def State.push8 (s : State) (v : Byte) : State := { s.writeByte s.sp v with sp := s.sp - 1 }

/-- `Pull8()`: increment SP, then read at SP (R13). -/
def State.pull8 (s : State) : Byte × State :=
  let t := { s with sp := s.sp + 1 }
  (t.readByte t.sp, t)

/-- A 16-bit value pushed low byte first, so that it lies high byte at the lower address (20_memory.md R51). -/
def State.push16 (s : State) (v : Word) : State := (s.push8 (lo8 v)).push8 (hi8 v)

/-- A 16-bit value pulled high byte first. -/
def State.pull16 (s : State) : Word × State :=
  let hi := s.pull8
  let lo := hi.2.pull8
  (wordOf hi.1 lo.1, lo.2)

/-- The frame of SWI, WAI and interrupt entry: PCL, PCH, IXL, IXH, ACCA, ACCB, CC byte, each at SP followed by
SP <- SP - 1 (60_exceptions.md R301, 20_memory.md R67). PC is the return address. -/
def State.pushFrame (s : State) : State :=
  ((((s.push16 s.pc).push16 s.ix).push8 s.accA).push8 s.accB).push8 s.cc.toByte

/-- I <- 1, then PC <- the two bytes of a pointer, read with ordinary reads (R304, R306). -/
def State.enterHandler (s : State) (pointer : Word) : State :=
  { s with cc := { s.cc with i := true }, pc := s.readWord pointer }

/-- Taking an interrupt: the frame is pushed with the old I, then I is set and PC loaded from the pointer
(47_interrupt_instructions.md R290, 60_exceptions.md R304). -/
def State.takeInterrupt (s : State) (pointer : Word) : State := s.pushFrame.enterHandler pointer

/-- The return: CC, ACCB, ACCA, IXH, IXL, PCH, PCL pulled in this order (47_interrupt_instructions.md R292, R309). -/
def State.pullFrame (s : State) : State :=
  let cc := s.pull8
  let b := cc.2.pull8
  let a := b.2.pull8
  let x := a.2.pull16
  let p := x.2.pull16
  { p.2 with cc := CC.ofByte cc.1, accB := b.1, accA := a.1, ix := x.1, pc := p.1 }

end Sys2Proof.Machine
end

