-- ==== Sys2Proof/Machine/Operands.lean ====
section
/-! DEFINITION. Effective addresses and operand values of every addressing mode (30_encoding.md R84 to R88,
40_accumulator_memory.md R120, 41_single_operand.md R150, 43_index_and_stack_pointer.md R200). -/

namespace Sys2Proof.Machine

/-- The effective address: DIR zero-extends (R85), EXT is the address itself (R86), IND adds the unsigned offset to
IX mod 65536 and leaves IX unchanged (R87). -/
def State.ea (s : State) : Ea → Word
  | .dir addr => zext16 addr
  | .ext addr => addr
  | .ind offset => s.ix + zext16 offset

/-- The effective address in the two modes of Tables A-3 and A-7 (R86, R87). -/
def State.farEa (s : State) : Far → Word
  | .ext addr => addr
  | .ind offset => s.ix + zext16 offset

/-- The operand byte M: byte 1 itself, or the byte at ea (R120). -/
def State.load8 (s : State) : Src8 → Byte
  | .imm b => b
  | .mem e => s.readByte (s.ea e)

/-- The operand word M16: bytes 1 and 2, or the bytes at ea and ea + 1, high byte first (R200). -/
def State.load16 (s : State) : Src16 → Word
  | .imm w => w
  | .mem e => s.readWord (s.ea e)

/-- The operand X of a single-operand instruction (R150). -/
def State.readPlace (s : State) : Place → Byte
  | .acc r => s.acc r
  | .mem f => s.readByte (s.farEa f)

/-- Its write-back (R150). -/
def State.writePlace (s : State) (p : Place) (v : Byte) : State :=
  match p with
  | .acc r => s.setAcc r v
  | .mem f => s.writeByte (s.farEa f) v

/-- The branch target: PC, already past the two bytes, plus the sign-extended displacement (R88, R230). -/
def State.branchTarget (s : State) (rel : Byte) : Word := s.pc + sext16 rel

end Sys2Proof.Machine
end

