-- ==== Sys2Proof/Machine/AccMem.lean ====
section
/-! DEFINITION. Accumulator-and-memory instructions: ADC ADD AND BIT CMP EOR LDA ORA SBC SUB STA
(40_accumulator_memory.md R120 to R131). Each operation once, over any accumulator and operand; then one meaning per
opcode. -/

namespace Sys2Proof.Machine

/-- ADC (R121). -/
def opAdc (r : Acc) (src : Src8) (s : State) : State :=
  let o := add8 (s.acc r) (s.load8 src) s.cc.c
  { s.setAcc r o.val with cc := s.cc.ofSum o }

/-- ADD (R122). -/
def opAdd (r : Acc) (src : Src8) (s : State) : State :=
  let o := add8 (s.acc r) (s.load8 src) false
  { s.setAcc r o.val with cc := s.cc.ofSum o }

/-- AND (R123). -/
def opAnd (r : Acc) (src : Src8) (s : State) : State :=
  let res := s.acc r &&& s.load8 src
  { s.setAcc r res with cc := s.cc.ofByteResult res }

/-- BIT: the flags of AND, nothing stored (R124). -/
def opBit (r : Acc) (src : Src8) (s : State) : State :=
  { s with cc := s.cc.ofByteResult (s.acc r &&& s.load8 src) }

/-- CMP: the flags of SUB, nothing stored (R125). -/
def opCmp (r : Acc) (src : Src8) (s : State) : State :=
  { s with cc := s.cc.ofDifference (sub8 (s.acc r) (s.load8 src) false) }

/-- EOR (R126). -/
def opEor (r : Acc) (src : Src8) (s : State) : State :=
  let res := s.acc r ^^^ s.load8 src
  { s.setAcc r res with cc := s.cc.ofByteResult res }

/-- LDA (R127). -/
def opLda (r : Acc) (src : Src8) (s : State) : State :=
  let res := s.load8 src
  { s.setAcc r res with cc := s.cc.ofByteResult res }

/-- ORA (R128). -/
def opOra (r : Acc) (src : Src8) (s : State) : State :=
  let res := s.acc r ||| s.load8 src
  { s.setAcc r res with cc := s.cc.ofByteResult res }

/-- SBC (R129). -/
def opSbc (r : Acc) (src : Src8) (s : State) : State :=
  let o := sub8 (s.acc r) (s.load8 src) s.cc.c
  { s.setAcc r o.val with cc := s.cc.ofDifference o }

/-- SUB (R130). -/
def opSub (r : Acc) (src : Src8) (s : State) : State :=
  let o := sub8 (s.acc r) (s.load8 src) false
  { s.setAcc r o.val with cc := s.cc.ofDifference o }

/-- STA: a store sets N and Z from the value stored (R131). -/
def opSta (r : Acc) (e : Ea) (s : State) : State :=
  { s.writeByte (s.ea e) (s.acc r) with cc := s.cc.ofByteResult (s.acc r) }

/-- ADC A IMM, opcode 89 (R121). -/
def execAdcAImm (imm : Byte) (s : State) : Result := .next (opAdc .a (.imm imm) s)

/-- ADC A DIR, opcode 99 (R121). -/
def execAdcADir (addr : Byte) (s : State) : Result := .next (opAdc .a (.mem (.dir addr)) s)

/-- ADC A IND, opcode A9 (R121). -/
def execAdcAInd (offset : Byte) (s : State) : Result := .next (opAdc .a (.mem (.ind offset)) s)

/-- ADC A EXT, opcode B9 (R121). -/
def execAdcAExt (addr : Word) (s : State) : Result := .next (opAdc .a (.mem (.ext addr)) s)

/-- ADC B IMM, opcode C9 (R121). -/
def execAdcBImm (imm : Byte) (s : State) : Result := .next (opAdc .b (.imm imm) s)

/-- ADC B DIR, opcode D9 (R121). -/
def execAdcBDir (addr : Byte) (s : State) : Result := .next (opAdc .b (.mem (.dir addr)) s)

/-- ADC B IND, opcode E9 (R121). -/
def execAdcBInd (offset : Byte) (s : State) : Result := .next (opAdc .b (.mem (.ind offset)) s)

/-- ADC B EXT, opcode F9 (R121). -/
def execAdcBExt (addr : Word) (s : State) : Result := .next (opAdc .b (.mem (.ext addr)) s)

/-- ADD A IMM, opcode 8B (R122). -/
def execAddAImm (imm : Byte) (s : State) : Result := .next (opAdd .a (.imm imm) s)

/-- ADD A DIR, opcode 9B (R122). -/
def execAddADir (addr : Byte) (s : State) : Result := .next (opAdd .a (.mem (.dir addr)) s)

/-- ADD A IND, opcode AB (R122). -/
def execAddAInd (offset : Byte) (s : State) : Result := .next (opAdd .a (.mem (.ind offset)) s)

/-- ADD A EXT, opcode BB (R122). -/
def execAddAExt (addr : Word) (s : State) : Result := .next (opAdd .a (.mem (.ext addr)) s)

/-- ADD B IMM, opcode CB (R122). -/
def execAddBImm (imm : Byte) (s : State) : Result := .next (opAdd .b (.imm imm) s)

/-- ADD B DIR, opcode DB (R122). -/
def execAddBDir (addr : Byte) (s : State) : Result := .next (opAdd .b (.mem (.dir addr)) s)

/-- ADD B IND, opcode EB (R122). -/
def execAddBInd (offset : Byte) (s : State) : Result := .next (opAdd .b (.mem (.ind offset)) s)

/-- ADD B EXT, opcode FB (R122). -/
def execAddBExt (addr : Word) (s : State) : Result := .next (opAdd .b (.mem (.ext addr)) s)

/-- AND A IMM, opcode 84 (R123). -/
def execAndAImm (imm : Byte) (s : State) : Result := .next (opAnd .a (.imm imm) s)

/-- AND A DIR, opcode 94 (R123). -/
def execAndADir (addr : Byte) (s : State) : Result := .next (opAnd .a (.mem (.dir addr)) s)

/-- AND A IND, opcode A4 (R123). -/
def execAndAInd (offset : Byte) (s : State) : Result := .next (opAnd .a (.mem (.ind offset)) s)

/-- AND A EXT, opcode B4 (R123). -/
def execAndAExt (addr : Word) (s : State) : Result := .next (opAnd .a (.mem (.ext addr)) s)

/-- AND B IMM, opcode C4 (R123). -/
def execAndBImm (imm : Byte) (s : State) : Result := .next (opAnd .b (.imm imm) s)

/-- AND B DIR, opcode D4 (R123). -/
def execAndBDir (addr : Byte) (s : State) : Result := .next (opAnd .b (.mem (.dir addr)) s)

/-- AND B IND, opcode E4 (R123). -/
def execAndBInd (offset : Byte) (s : State) : Result := .next (opAnd .b (.mem (.ind offset)) s)

/-- AND B EXT, opcode F4 (R123). -/
def execAndBExt (addr : Word) (s : State) : Result := .next (opAnd .b (.mem (.ext addr)) s)

/-- BIT A IMM, opcode 85 (R124). -/
def execBitAImm (imm : Byte) (s : State) : Result := .next (opBit .a (.imm imm) s)

/-- BIT A DIR, opcode 95 (R124). -/
def execBitADir (addr : Byte) (s : State) : Result := .next (opBit .a (.mem (.dir addr)) s)

/-- BIT A IND, opcode A5 (R124). -/
def execBitAInd (offset : Byte) (s : State) : Result := .next (opBit .a (.mem (.ind offset)) s)

/-- BIT A EXT, opcode B5 (R124). -/
def execBitAExt (addr : Word) (s : State) : Result := .next (opBit .a (.mem (.ext addr)) s)

/-- BIT B IMM, opcode C5 (R124). -/
def execBitBImm (imm : Byte) (s : State) : Result := .next (opBit .b (.imm imm) s)

/-- BIT B DIR, opcode D5 (R124). -/
def execBitBDir (addr : Byte) (s : State) : Result := .next (opBit .b (.mem (.dir addr)) s)

/-- BIT B IND, opcode E5 (R124). -/
def execBitBInd (offset : Byte) (s : State) : Result := .next (opBit .b (.mem (.ind offset)) s)

/-- BIT B EXT, opcode F5 (R124). -/
def execBitBExt (addr : Word) (s : State) : Result := .next (opBit .b (.mem (.ext addr)) s)

/-- CMP A IMM, opcode 81 (R125). -/
def execCmpAImm (imm : Byte) (s : State) : Result := .next (opCmp .a (.imm imm) s)

/-- CMP A DIR, opcode 91 (R125). -/
def execCmpADir (addr : Byte) (s : State) : Result := .next (opCmp .a (.mem (.dir addr)) s)

/-- CMP A IND, opcode A1 (R125). -/
def execCmpAInd (offset : Byte) (s : State) : Result := .next (opCmp .a (.mem (.ind offset)) s)

/-- CMP A EXT, opcode B1 (R125). -/
def execCmpAExt (addr : Word) (s : State) : Result := .next (opCmp .a (.mem (.ext addr)) s)

/-- CMP B IMM, opcode C1 (R125). -/
def execCmpBImm (imm : Byte) (s : State) : Result := .next (opCmp .b (.imm imm) s)

/-- CMP B DIR, opcode D1 (R125). -/
def execCmpBDir (addr : Byte) (s : State) : Result := .next (opCmp .b (.mem (.dir addr)) s)

/-- CMP B IND, opcode E1 (R125). -/
def execCmpBInd (offset : Byte) (s : State) : Result := .next (opCmp .b (.mem (.ind offset)) s)

/-- CMP B EXT, opcode F1 (R125). -/
def execCmpBExt (addr : Word) (s : State) : Result := .next (opCmp .b (.mem (.ext addr)) s)

/-- EOR A IMM, opcode 88 (R126). -/
def execEorAImm (imm : Byte) (s : State) : Result := .next (opEor .a (.imm imm) s)

/-- EOR A DIR, opcode 98 (R126). -/
def execEorADir (addr : Byte) (s : State) : Result := .next (opEor .a (.mem (.dir addr)) s)

/-- EOR A IND, opcode A8 (R126). -/
def execEorAInd (offset : Byte) (s : State) : Result := .next (opEor .a (.mem (.ind offset)) s)

/-- EOR A EXT, opcode B8 (R126). -/
def execEorAExt (addr : Word) (s : State) : Result := .next (opEor .a (.mem (.ext addr)) s)

/-- EOR B IMM, opcode C8 (R126). -/
def execEorBImm (imm : Byte) (s : State) : Result := .next (opEor .b (.imm imm) s)

/-- EOR B DIR, opcode D8 (R126). -/
def execEorBDir (addr : Byte) (s : State) : Result := .next (opEor .b (.mem (.dir addr)) s)

/-- EOR B IND, opcode E8 (R126). -/
def execEorBInd (offset : Byte) (s : State) : Result := .next (opEor .b (.mem (.ind offset)) s)

/-- EOR B EXT, opcode F8 (R126). -/
def execEorBExt (addr : Word) (s : State) : Result := .next (opEor .b (.mem (.ext addr)) s)

/-- LDA A IMM, opcode 86 (R127). -/
def execLdaAImm (imm : Byte) (s : State) : Result := .next (opLda .a (.imm imm) s)

/-- LDA A DIR, opcode 96 (R127). -/
def execLdaADir (addr : Byte) (s : State) : Result := .next (opLda .a (.mem (.dir addr)) s)

/-- LDA A IND, opcode A6 (R127). -/
def execLdaAInd (offset : Byte) (s : State) : Result := .next (opLda .a (.mem (.ind offset)) s)

/-- LDA A EXT, opcode B6 (R127). -/
def execLdaAExt (addr : Word) (s : State) : Result := .next (opLda .a (.mem (.ext addr)) s)

/-- LDA B IMM, opcode C6 (R127). -/
def execLdaBImm (imm : Byte) (s : State) : Result := .next (opLda .b (.imm imm) s)

/-- LDA B DIR, opcode D6 (R127). -/
def execLdaBDir (addr : Byte) (s : State) : Result := .next (opLda .b (.mem (.dir addr)) s)

/-- LDA B IND, opcode E6 (R127). -/
def execLdaBInd (offset : Byte) (s : State) : Result := .next (opLda .b (.mem (.ind offset)) s)

/-- LDA B EXT, opcode F6 (R127). -/
def execLdaBExt (addr : Word) (s : State) : Result := .next (opLda .b (.mem (.ext addr)) s)

/-- ORA A IMM, opcode 8A (R128). -/
def execOraAImm (imm : Byte) (s : State) : Result := .next (opOra .a (.imm imm) s)

/-- ORA A DIR, opcode 9A (R128). -/
def execOraADir (addr : Byte) (s : State) : Result := .next (opOra .a (.mem (.dir addr)) s)

/-- ORA A IND, opcode AA (R128). -/
def execOraAInd (offset : Byte) (s : State) : Result := .next (opOra .a (.mem (.ind offset)) s)

/-- ORA A EXT, opcode BA (R128). -/
def execOraAExt (addr : Word) (s : State) : Result := .next (opOra .a (.mem (.ext addr)) s)

/-- ORA B IMM, opcode CA (R128). -/
def execOraBImm (imm : Byte) (s : State) : Result := .next (opOra .b (.imm imm) s)

/-- ORA B DIR, opcode DA (R128). -/
def execOraBDir (addr : Byte) (s : State) : Result := .next (opOra .b (.mem (.dir addr)) s)

/-- ORA B IND, opcode EA (R128). -/
def execOraBInd (offset : Byte) (s : State) : Result := .next (opOra .b (.mem (.ind offset)) s)

/-- ORA B EXT, opcode FA (R128). -/
def execOraBExt (addr : Word) (s : State) : Result := .next (opOra .b (.mem (.ext addr)) s)

/-- SBC A IMM, opcode 82 (R129). -/
def execSbcAImm (imm : Byte) (s : State) : Result := .next (opSbc .a (.imm imm) s)

/-- SBC A DIR, opcode 92 (R129). -/
def execSbcADir (addr : Byte) (s : State) : Result := .next (opSbc .a (.mem (.dir addr)) s)

/-- SBC A IND, opcode A2 (R129). -/
def execSbcAInd (offset : Byte) (s : State) : Result := .next (opSbc .a (.mem (.ind offset)) s)

/-- SBC A EXT, opcode B2 (R129). -/
def execSbcAExt (addr : Word) (s : State) : Result := .next (opSbc .a (.mem (.ext addr)) s)

/-- SBC B IMM, opcode C2 (R129). -/
def execSbcBImm (imm : Byte) (s : State) : Result := .next (opSbc .b (.imm imm) s)

/-- SBC B DIR, opcode D2 (R129). -/
def execSbcBDir (addr : Byte) (s : State) : Result := .next (opSbc .b (.mem (.dir addr)) s)

/-- SBC B IND, opcode E2 (R129). -/
def execSbcBInd (offset : Byte) (s : State) : Result := .next (opSbc .b (.mem (.ind offset)) s)

/-- SBC B EXT, opcode F2 (R129). -/
def execSbcBExt (addr : Word) (s : State) : Result := .next (opSbc .b (.mem (.ext addr)) s)

/-- SUB A IMM, opcode 80 (R130). -/
def execSubAImm (imm : Byte) (s : State) : Result := .next (opSub .a (.imm imm) s)

/-- SUB A DIR, opcode 90 (R130). -/
def execSubADir (addr : Byte) (s : State) : Result := .next (opSub .a (.mem (.dir addr)) s)

/-- SUB A IND, opcode A0 (R130). -/
def execSubAInd (offset : Byte) (s : State) : Result := .next (opSub .a (.mem (.ind offset)) s)

/-- SUB A EXT, opcode B0 (R130). -/
def execSubAExt (addr : Word) (s : State) : Result := .next (opSub .a (.mem (.ext addr)) s)

/-- SUB B IMM, opcode C0 (R130). -/
def execSubBImm (imm : Byte) (s : State) : Result := .next (opSub .b (.imm imm) s)

/-- SUB B DIR, opcode D0 (R130). -/
def execSubBDir (addr : Byte) (s : State) : Result := .next (opSub .b (.mem (.dir addr)) s)

/-- SUB B IND, opcode E0 (R130). -/
def execSubBInd (offset : Byte) (s : State) : Result := .next (opSub .b (.mem (.ind offset)) s)

/-- SUB B EXT, opcode F0 (R130). -/
def execSubBExt (addr : Word) (s : State) : Result := .next (opSub .b (.mem (.ext addr)) s)

/-- STA A DIR, opcode 97 (R131). -/
def execStaADir (addr : Byte) (s : State) : Result := .next (opSta .a (.dir addr) s)

/-- STA A IND, opcode A7 (R131). -/
def execStaAInd (offset : Byte) (s : State) : Result := .next (opSta .a (.ind offset) s)

/-- STA A EXT, opcode B7 (R131). -/
def execStaAExt (addr : Word) (s : State) : Result := .next (opSta .a (.ext addr) s)

/-- STA B DIR, opcode D7 (R131). -/
def execStaBDir (addr : Byte) (s : State) : Result := .next (opSta .b (.dir addr) s)

/-- STA B IND, opcode E7 (R131). -/
def execStaBInd (offset : Byte) (s : State) : Result := .next (opSta .b (.ind offset) s)

/-- STA B EXT, opcode F7 (R131). -/
def execStaBExt (addr : Word) (s : State) : Result := .next (opSta .b (.ext addr) s)

end Sys2Proof.Machine
end

