-- ==== Sys2Proof/Machine/Branch.lean ====
section
/-! DEFINITION. Branch instructions (44_branch.md R230 to R247). PC is already past the two bytes of the branch when
a meaning runs (00_scope.md R14). -/

namespace Sys2Proof.Machine

/-- A plain branch: to the target if the condition holds, else on to the next instruction (R230). -/
def branchIf (cond : Bool) (rel : Byte) (s : State) : State :=
  if cond then { s with pc := s.branchTarget rel } else s

/-- A call: the return address PC pushed low byte first, then PC <- target (R246, 45_jump_and_subroutine.md R261). -/
def callTo (target : Word) (s : State) : State := { s.push16 s.pc with pc := target }

/-- BRA REL, opcode 20 (R231). -/
def execBra (rel : Byte) (s : State) : Result := .next (branchIf true rel s)

/-- BCC REL, opcode 24 (R232). -/
def execBcc (rel : Byte) (s : State) : Result := .next (branchIf (!s.cc.c) rel s)

/-- BCS REL, opcode 25 (R233). -/
def execBcs (rel : Byte) (s : State) : Result := .next (branchIf s.cc.c rel s)

/-- BEQ REL, opcode 27 (R234). -/
def execBeq (rel : Byte) (s : State) : Result := .next (branchIf s.cc.z rel s)

/-- BGE REL, opcode 2C (R235). -/
def execBge (rel : Byte) (s : State) : Result := .next (branchIf (!(s.cc.n ^^ s.cc.v)) rel s)

/-- BGT REL, opcode 2E (R236). -/
def execBgt (rel : Byte) (s : State) : Result := .next (branchIf (!(s.cc.z || (s.cc.n ^^ s.cc.v))) rel s)

/-- BHI REL, opcode 22 (R237). -/
def execBhi (rel : Byte) (s : State) : Result := .next (branchIf (!(s.cc.c || s.cc.z)) rel s)

/-- BLE REL, opcode 2F (R238). -/
def execBle (rel : Byte) (s : State) : Result := .next (branchIf (s.cc.z || (s.cc.n ^^ s.cc.v)) rel s)

/-- BLS REL, opcode 23 (R239). -/
def execBls (rel : Byte) (s : State) : Result := .next (branchIf (s.cc.c || s.cc.z) rel s)

/-- BLT REL, opcode 2D (R240). -/
def execBlt (rel : Byte) (s : State) : Result := .next (branchIf (s.cc.n ^^ s.cc.v) rel s)

/-- BMI REL, opcode 2B (R241). -/
def execBmi (rel : Byte) (s : State) : Result := .next (branchIf s.cc.n rel s)

/-- BNE REL, opcode 26 (R242). -/
def execBne (rel : Byte) (s : State) : Result := .next (branchIf (!s.cc.z) rel s)

/-- BPL REL, opcode 2A (R243). -/
def execBpl (rel : Byte) (s : State) : Result := .next (branchIf (!s.cc.n) rel s)

/-- BVC REL, opcode 28 (R244). -/
def execBvc (rel : Byte) (s : State) : Result := .next (branchIf (!s.cc.v) rel s)

/-- BVS REL, opcode 29 (R245). -/
def execBvs (rel : Byte) (s : State) : Result := .next (branchIf s.cc.v rel s)

/-- BSR REL, opcode 8D (R246). -/
def execBsr (rel : Byte) (s : State) : Result := .next (callTo (s.branchTarget rel) s)

end Sys2Proof.Machine
end

