-- ==== Sys2Proof/Machine/CondCode.lean ====
section
/-! DEFINITION. Condition-code register instructions and NOP: CLC CLI CLV SEC SEI SEV TAP TPA NOP
(46_condition_code_and_nop.md R270 to R278). -/

namespace Sys2Proof.Machine

/-- CC written by CLI or TAP: where it leaves I = 0 the boundary after it may come too early for a pending request,
which `afterUnmask` records for interrupt recognition (60_exceptions.md R303, D7; entry 6). -/
def setMask (c : CC) (s : State) : State := { s with cc := c, afterUnmask := !c.i }

/-- CLC, opcode 0C (R270). -/
def execClc (s : State) : Result := .next ({ s with cc := { s.cc with c := false } })

/-- CLI, opcode 0E (R271). -/
def execCli (s : State) : Result := .next (setMask { s.cc with i := false } s)

/-- CLV, opcode 0A (R272). -/
def execClv (s : State) : Result := .next ({ s with cc := { s.cc with v := false } })

/-- SEC, opcode 0D (R273). -/
def execSec (s : State) : Result := .next ({ s with cc := { s.cc with c := true } })

/-- SEI, opcode 0F (R274). -/
def execSei (s : State) : Result := .next ({ s with cc := { s.cc with i := true } })

/-- SEV, opcode 0B (R275). -/
def execSev (s : State) : Result := .next ({ s with cc := { s.cc with v := true } })

/-- TAP, opcode 06 (R276). -/
def execTap (s : State) : Result := .next (setMask (CC.ofByte s.accA) s)

/-- TPA, opcode 07 (R277). -/
def execTpa (s : State) : Result := .next ({ s with accA := s.cc.toByte })

/-- NOP, opcode 01 (R278). -/
def execNop (s : State) : Result := .next (s)

end Sys2Proof.Machine
end

