-- ==== Sys2Proof/Machine/Inherent.lean ====
section
/-! DEFINITION. Accumulator-to-accumulator instructions, decimal adjust, accumulator push and pull: ABA CBA SBA TAB
TBA DAA PSH PUL (42_accumulator_inherent.md R180 to R187). -/

namespace Sys2Proof.Machine

/-- ABA: the incoming C is not added (R180). -/
def opAba (s : State) : State :=
  let o := add8 s.accA s.accB false
  { s with accA := o.val, cc := s.cc.ofSum o }

/-- CBA: flags only (R181). -/
def opCba (s : State) : State :=
  { s with cc := s.cc.ofDifference (sub8 s.accA s.accB false) }

/-- SBA: the previous carry takes no part (R182, 90_conflicts.md C4). -/
def opSba (s : State) : State :=
  let o := sub8 s.accA s.accB false
  { s with accA := o.val, cc := s.cc.ofDifference o }

/-- TAB (R183). -/
def opTab (s : State) : State := { s with accB := s.accA, cc := s.cc.ofByteResult s.accA }

/-- TBA (R184). -/
def opTba (s : State) : State := { s with accA := s.accB, cc := s.cc.ofByteResult s.accB }

/-- One row of the table of R185: C before, the upper half-byte's range, H before, the lower half-byte's range, the
number added, C after. -/
structure DaaRow where
  carry : Bool
  upperFrom : Nat
  upperTo : Nat
  half : Bool
  lowerFrom : Nat
  lowerTo : Nat
  added : Byte
  carryAfter : Bool
deriving DecidableEq, Repr

/-- The nine rows, in the table's order (R185). -/
def daaTable : List DaaRow :=
  [⟨false, 0x0, 0x9, false, 0x0, 0x9, 0x00, false⟩,
   ⟨false, 0x0, 0x8, false, 0xA, 0xF, 0x06, false⟩,
   ⟨false, 0x0, 0x9, true, 0x0, 0x3, 0x06, false⟩,
   ⟨false, 0xA, 0xF, false, 0x0, 0x9, 0x60, true⟩,
   ⟨false, 0x9, 0xF, false, 0xA, 0xF, 0x66, true⟩,
   ⟨false, 0xA, 0xF, true, 0x0, 0x3, 0x66, true⟩,
   ⟨true, 0x0, 0x2, false, 0x0, 0x9, 0x60, true⟩,
   ⟨true, 0x0, 0x2, false, 0xA, 0xF, 0x66, true⟩,
   ⟨true, 0x0, 0x3, true, 0x0, 0x3, 0x66, true⟩]

/-- Whether a row matches C, H and ACCA as they are before DAA. -/
def daaMatches (carry half : Bool) (a : Byte) (row : DaaRow) : Bool :=
  let upper := a.toNat / 16
  let lower := a.toNat % 16
  carry == row.carry && half == row.half &&
    (decide (row.upperFrom ≤ upper) && decide (upper ≤ row.upperTo)) &&
    (decide (row.lowerFrom ≤ lower) && decide (lower ≤ row.lowerTo))

/-- The table row of a state, if there is one (R185). -/
def daaRow (carry half : Bool) (a : Byte) : Option DaaRow := daaTable.find? (daaMatches carry half a)

/-- DAA: by the table where a row matches, C from its last column; V is not defined, a free value. Where no row
matches ACCA, N, Z, C and V are free values (R185, D5; entry 8). H and I unchanged. -/
def opDaa (s : State) : State :=
  match daaRow s.cc.c s.cc.h s.accA with
  | some row =>
    let res := s.accA + row.added
    { s with
      accA := res
      cc := { s.cc with n := res.msb, z := res == 0, v := Config.daaV s.tick, c := row.carryAfter } }
  | none =>
    { s with
      accA := Config.daaOutsideA s.tick
      cc := { s.cc with
        n := Config.daaOutsideN s.tick
        z := Config.daaOutsideZ s.tick
        v := Config.daaV s.tick
        c := Config.daaOutsideC s.tick } }

/-- PSH (R186). -/
def opPsh (r : Acc) (s : State) : State := s.push8 (s.acc r)

/-- PUL: no flag changes (R187). -/
def opPul (r : Acc) (s : State) : State :=
  let p := s.pull8
  p.2.setAcc r p.1

/-- ABA, opcode 1B (R180). -/
def execAba (s : State) : Result := .next (opAba s)

/-- CBA, opcode 11 (R181). -/
def execCba (s : State) : Result := .next (opCba s)

/-- SBA, opcode 10 (R182). -/
def execSba (s : State) : Result := .next (opSba s)

/-- TAB, opcode 16 (R183). -/
def execTab (s : State) : Result := .next (opTab s)

/-- TBA, opcode 17 (R184). -/
def execTba (s : State) : Result := .next (opTba s)

/-- DAA, opcode 19 (R185). -/
def execDaa (s : State) : Result := .next (opDaa s)

/-- PSH ACCA, opcode 36 (R186). -/
def execPshA (s : State) : Result := .next (opPsh .a s)

/-- PSH ACCB, opcode 37 (R186). -/
def execPshB (s : State) : Result := .next (opPsh .b s)

/-- PUL ACCA, opcode 32 (R187). -/
def execPulA (s : State) : Result := .next (opPul .a s)

/-- PUL ACCB, opcode 33 (R187). -/
def execPulB (s : State) : Result := .next (opPul .b s)

end Sys2Proof.Machine
end

