-- ==== Sys2Proof/Machine/Interrupt.lean ====
section
/-! DEFINITION. The interrupt instructions SWI WAI RTI (47_interrupt_instructions.md R290 to R292) and the hardware
side: the request input, its recognition, entry while a program runs, and the step while waiting
(60_exceptions.md R302 to R305). -/

namespace Sys2Proof.Machine

/-- SWI, opcode 3F (R290). -/
def execSwi (s : State) : Result := .next (s.takeInterrupt swiPointer)

/-- WAI, opcode 3E (R291). -/
def execWai (s : State) : Result := .next ({ s.pushFrame with waiting := true })

/-- RTI, opcode 3B (R292). -/
def execRti (s : State) : Result := .next (s.pullFrame)

/-- The sample of the interrupt request input at the coming step; no request once the schedule has run out
(R302; entry 5). -/
def State.irq (s : State) : Bool := s.irqLine.headD false

/-- What every step begins with: its sample of the input is used up, and the model's step counter advances
(entries 4, 5, 16). -/
def State.beginStep (s : State) : State := { s with irqLine := s.irqLine.tail, tick := s.tick + 1 }

/-- Recognition between instructions: a request, I = 0, and, if IRQ_DELAY_AFTER_UNMASK is 1, no CLI or TAP that left
I = 0 just before (R303). That the MPU is not waiting is the step's own case distinction (R14). -/
def State.recognises (s : State) (irq : Bool) : Bool :=
  irq && !s.cc.i && !(Config.irqDelayAfterUnmask && s.afterUnmask)

/-- Interrupt entry while a program runs: the frame with PC the next instruction's address, I <- 1, PC from the
internal interrupt pointer (R304, D6). Its time is not given (R345). -/
def State.interruptEntry (s : State) : State :=
  { s.takeInterrupt irqPointer with afterUnmask := false, cycles := s.cycles + Config.irqEntryCycles }

/-- The end of the wait: I <- 1, PC from the internal interrupt pointer, nothing pushed (R305). -/
def State.resumeFromWait (s : State) : State :=
  { s.enterHandler irqPointer with waiting := false, cycles := s.cycles + Config.irqResumeCycles }

/-- The step while waiting: resumption on a request with I = 0, else the MPU stays suspended and nothing but the
time changes (R305, D16). -/
def State.waitStep (s : State) (irq : Bool) : State :=
  if irq && !s.cc.i then s.resumeFromWait else { s with cycles := s.cycles + Config.waitCycles s.tick }

end Sys2Proof.Machine
end

