-- ==== Sys2Proof/Machine/Jump.lean ====
section
/-! DEFINITION. Jump and subroutine instructions: JMP JSR RTS (45_jump_and_subroutine.md R260 to R263). -/

namespace Sys2Proof.Machine

/-- RTS: PCH, then PCL pulled (R262). -/
def opRts (s : State) : State :=
  let p := s.pull16
  { p.2 with pc := p.1 }

/-- JMP IND, opcode 6E (R260). -/
def execJmpInd (offset : Byte) (s : State) : Result := .next ({ s with pc := s.farEa (.ind offset) })

/-- JMP EXT, opcode 7E (R260). -/
def execJmpExt (addr : Word) (s : State) : Result := .next ({ s with pc := s.farEa (.ext addr) })

/-- JSR IND, opcode AD (R261). -/
def execJsrInd (offset : Byte) (s : State) : Result := .next (callTo (s.farEa (.ind offset)) s)

/-- JSR EXT, opcode BD (R261). -/
def execJsrExt (addr : Word) (s : State) : Result := .next (callTo (s.farEa (.ext addr)) s)

/-- RTS, opcode 39 (R262). -/
def execRts (s : State) : Result := .next (opRts s)

end Sys2Proof.Machine
end

