-- ==== Sys2Proof/Machine/Pointer.lean ====
section
/-! DEFINITION. Index register and stack pointer instructions: CPX LDS LDX STS STX DES DEX INS INX TSX TXS
(43_index_and_stack_pointer.md R200 to R211). -/

namespace Sys2Proof.Machine

/-- CPX: flags only, C unchanged (R201). -/
def opCpx (src : Src16) (s : State) : State := { s with cc := s.cc.ofIndexCompare s.ix (s.load16 src) }

/-- LDS (R202). -/
def opLds (src : Src16) (s : State) : State :=
  { s with sp := s.load16 src, cc := s.cc.ofWordResult (s.load16 src) }

/-- LDX: the indexed address uses the old IX (R200, R203). -/
def opLdx (src : Src16) (s : State) : State :=
  { s with ix := s.load16 src, cc := s.cc.ofWordResult (s.load16 src) }

/-- STS (R204). -/
def opSts (e : Ea) (s : State) : State := { s.writeWord (s.ea e) s.sp with cc := s.cc.ofWordResult s.sp }

/-- STX (R205). -/
def opStx (e : Ea) (s : State) : State := { s.writeWord (s.ea e) s.ix with cc := s.cc.ofWordResult s.ix }

/-- IX written with only Z following it: DEX and INX (R207, R209). -/
def setIndex (v : Word) (s : State) : State := { s with ix := v, cc := { s.cc with z := v == 0 } }

/-- CPX IMM, opcode 8C (R201). -/
def execCpxImm (imm : Word) (s : State) : Result := .next (opCpx (.imm imm) s)

/-- CPX DIR, opcode 9C (R201). -/
def execCpxDir (addr : Byte) (s : State) : Result := .next (opCpx (.mem (.dir addr)) s)

/-- CPX IND, opcode AC (R201). -/
def execCpxInd (offset : Byte) (s : State) : Result := .next (opCpx (.mem (.ind offset)) s)

/-- CPX EXT, opcode BC (R201). -/
def execCpxExt (addr : Word) (s : State) : Result := .next (opCpx (.mem (.ext addr)) s)

/-- LDS IMM, opcode 8E (R202). -/
def execLdsImm (imm : Word) (s : State) : Result := .next (opLds (.imm imm) s)

/-- LDS DIR, opcode 9E (R202). -/
def execLdsDir (addr : Byte) (s : State) : Result := .next (opLds (.mem (.dir addr)) s)

/-- LDS IND, opcode AE (R202). -/
def execLdsInd (offset : Byte) (s : State) : Result := .next (opLds (.mem (.ind offset)) s)

/-- LDS EXT, opcode BE (R202). -/
def execLdsExt (addr : Word) (s : State) : Result := .next (opLds (.mem (.ext addr)) s)

/-- LDX IMM, opcode CE (R203). -/
def execLdxImm (imm : Word) (s : State) : Result := .next (opLdx (.imm imm) s)

/-- LDX DIR, opcode DE (R203). -/
def execLdxDir (addr : Byte) (s : State) : Result := .next (opLdx (.mem (.dir addr)) s)

/-- LDX IND, opcode EE (R203). -/
def execLdxInd (offset : Byte) (s : State) : Result := .next (opLdx (.mem (.ind offset)) s)

/-- LDX EXT, opcode FE (R203). -/
def execLdxExt (addr : Word) (s : State) : Result := .next (opLdx (.mem (.ext addr)) s)

/-- STS DIR, opcode 9F (R204). -/
def execStsDir (addr : Byte) (s : State) : Result := .next (opSts (.dir addr) s)

/-- STS IND, opcode AF (R204). -/
def execStsInd (offset : Byte) (s : State) : Result := .next (opSts (.ind offset) s)

/-- STS EXT, opcode BF (R204). -/
def execStsExt (addr : Word) (s : State) : Result := .next (opSts (.ext addr) s)

/-- STX DIR, opcode DF (R205). -/
def execStxDir (addr : Byte) (s : State) : Result := .next (opStx (.dir addr) s)

/-- STX IND, opcode EF (R205). -/
def execStxInd (offset : Byte) (s : State) : Result := .next (opStx (.ind offset) s)

/-- STX EXT, opcode FF (R205). -/
def execStxExt (addr : Word) (s : State) : Result := .next (opStx (.ext addr) s)

/-- DES, opcode 34 (R206). -/
def execDes (s : State) : Result := .next ({ s with sp := s.sp - 1 })

/-- DEX, opcode 09 (R207). -/
def execDex (s : State) : Result := .next (setIndex (s.ix - 1) s)

/-- INS, opcode 31 (R208). -/
def execIns (s : State) : Result := .next ({ s with sp := s.sp + 1 })

/-- INX, opcode 08 (R209). -/
def execInx (s : State) : Result := .next (setIndex (s.ix + 1) s)

/-- TSX, opcode 30 (R210). -/
def execTsx (s : State) : Result := .next ({ s with ix := s.sp + 1 })

/-- TXS, opcode 35 (R211). -/
def execTxs (s : State) : Result := .next ({ s with sp := s.ix - 1 })

end Sys2Proof.Machine
end

