-- ==== Sys2Proof/Machine/Single.lean ====
section
/-! DEFINITION. Single-operand instructions: ASL ASR CLR COM DEC INC LSR NEG ROL ROR TST
(41_single_operand.md R150 to R161). An operation gives the result and the flags from the operand X and the flags
before; `modify` reads the place, writes the result back and sets the flags. -/

namespace Sys2Proof.Machine

/-- ASL: bit 0 cleared, C the old bit 7 (R151). -/
def aslByte (x : Byte) (c : CC) : Byte × CC :=
  let res := x <<< 1
  (res, c.ofShift res x.msb)

/-- ASR: bit 7 held, C the old bit 0 (R152). -/
def asrByte (x : Byte) (c : CC) : Byte × CC :=
  let res := (x >>> 1) ||| (x &&& 0x80)
  (res, c.ofShift res (x.getLsbD 0))

/-- COM: one's complement, V cleared, C set (R154). -/
def comByte (x : Byte) (c : CC) : Byte × CC :=
  let res := 0xFF - x
  (res, { c.ofByteResult res with c := true })

/-- DEC: V iff the operand was 80, C unchanged (R155). -/
def decByte (x : Byte) (c : CC) : Byte × CC :=
  let res := x - 1
  (res, c.ofCount res (x == 0x80))

/-- INC: V iff the operand was 7F, C unchanged (R156). -/
def incByte (x : Byte) (c : CC) : Byte × CC :=
  let res := x + 1
  (res, c.ofCount res (x == 0x7F))

/-- LSR: bit 7 cleared, C the old bit 0 (R157). -/
def lsrByte (x : Byte) (c : CC) : Byte × CC :=
  let res := x >>> 1
  (res, c.ofShift res (x.getLsbD 0))

/-- NEG: two's complement; V iff the result is 80, C iff it is not 00 (R158). -/
def negByte (x : Byte) (c : CC) : Byte × CC :=
  let res := 0 - x
  (res, { c with n := res.msb, z := res == 0, v := res == 0x80, c := res != 0x00 })

/-- ROL: the old C enters bit 0, C the old bit 7 (R159). -/
def rolByte (x : Byte) (c : CC) : Byte × CC :=
  let res := (x <<< 1) ||| (BitVec.ofBool c.c).setWidth 8
  (res, c.ofShift res x.msb)

/-- ROR: the old C enters bit 7, C the old bit 0 (R160). -/
def rorByte (x : Byte) (c : CC) : Byte × CC :=
  let res := (x >>> 1) ||| ((BitVec.ofBool c.c).setWidth 8 <<< 7)
  (res, c.ofShift res (x.getLsbD 0))

/-- Read the place, operate, write back, set the flags (R150). -/
def modify (p : Place) (f : Byte → CC → Byte × CC) (s : State) : State :=
  let o := f (s.readPlace p) s.cc
  { s.writePlace p o.1 with cc := o.2 }

/-- CLR: written only; N, V, C cleared, Z set (R153). -/
def opClr (p : Place) (s : State) : State :=
  { s.writePlace p 0x00 with cc := { s.cc with n := false, z := true, v := false, c := false } }

/-- TST: read only; N, Z from the operand, V and C cleared (R161). -/
def opTst (p : Place) (s : State) : State :=
  { s with cc := { s.cc.ofByteResult (s.readPlace p) with c := false } }

/-- ASL ACCA, opcode 48 (R151). -/
def execAslA (s : State) : Result := .next (modify (.acc .a) aslByte s)

/-- ASL ACCB, opcode 58 (R151). -/
def execAslB (s : State) : Result := .next (modify (.acc .b) aslByte s)

/-- ASL IND, opcode 68 (R151). -/
def execAslInd (offset : Byte) (s : State) : Result := .next (modify (.mem (.ind offset)) aslByte s)

/-- ASL EXT, opcode 78 (R151). -/
def execAslExt (addr : Word) (s : State) : Result := .next (modify (.mem (.ext addr)) aslByte s)

/-- ASR ACCA, opcode 47 (R152). -/
def execAsrA (s : State) : Result := .next (modify (.acc .a) asrByte s)

/-- ASR ACCB, opcode 57 (R152). -/
def execAsrB (s : State) : Result := .next (modify (.acc .b) asrByte s)

/-- ASR IND, opcode 67 (R152). -/
def execAsrInd (offset : Byte) (s : State) : Result := .next (modify (.mem (.ind offset)) asrByte s)

/-- ASR EXT, opcode 77 (R152). -/
def execAsrExt (addr : Word) (s : State) : Result := .next (modify (.mem (.ext addr)) asrByte s)

/-- CLR ACCA, opcode 4F (R153). -/
def execClrA (s : State) : Result := .next (opClr (.acc .a) s)

/-- CLR ACCB, opcode 5F (R153). -/
def execClrB (s : State) : Result := .next (opClr (.acc .b) s)

/-- CLR IND, opcode 6F (R153). -/
def execClrInd (offset : Byte) (s : State) : Result := .next (opClr (.mem (.ind offset)) s)

/-- CLR EXT, opcode 7F (R153). -/
def execClrExt (addr : Word) (s : State) : Result := .next (opClr (.mem (.ext addr)) s)

/-- COM ACCA, opcode 43 (R154). -/
def execComA (s : State) : Result := .next (modify (.acc .a) comByte s)

/-- COM ACCB, opcode 53 (R154). -/
def execComB (s : State) : Result := .next (modify (.acc .b) comByte s)

/-- COM IND, opcode 63 (R154). -/
def execComInd (offset : Byte) (s : State) : Result := .next (modify (.mem (.ind offset)) comByte s)

/-- COM EXT, opcode 73 (R154). -/
def execComExt (addr : Word) (s : State) : Result := .next (modify (.mem (.ext addr)) comByte s)

/-- DEC ACCA, opcode 4A (R155). -/
def execDecA (s : State) : Result := .next (modify (.acc .a) decByte s)

/-- DEC ACCB, opcode 5A (R155). -/
def execDecB (s : State) : Result := .next (modify (.acc .b) decByte s)

/-- DEC IND, opcode 6A (R155). -/
def execDecInd (offset : Byte) (s : State) : Result := .next (modify (.mem (.ind offset)) decByte s)

/-- DEC EXT, opcode 7A (R155). -/
def execDecExt (addr : Word) (s : State) : Result := .next (modify (.mem (.ext addr)) decByte s)

/-- INC ACCA, opcode 4C (R156). -/
def execIncA (s : State) : Result := .next (modify (.acc .a) incByte s)

/-- INC ACCB, opcode 5C (R156). -/
def execIncB (s : State) : Result := .next (modify (.acc .b) incByte s)

/-- INC IND, opcode 6C (R156). -/
def execIncInd (offset : Byte) (s : State) : Result := .next (modify (.mem (.ind offset)) incByte s)

/-- INC EXT, opcode 7C (R156). -/
def execIncExt (addr : Word) (s : State) : Result := .next (modify (.mem (.ext addr)) incByte s)

/-- LSR ACCA, opcode 44 (R157). -/
def execLsrA (s : State) : Result := .next (modify (.acc .a) lsrByte s)

/-- LSR ACCB, opcode 54 (R157). -/
def execLsrB (s : State) : Result := .next (modify (.acc .b) lsrByte s)

/-- LSR IND, opcode 64 (R157). -/
def execLsrInd (offset : Byte) (s : State) : Result := .next (modify (.mem (.ind offset)) lsrByte s)

/-- LSR EXT, opcode 74 (R157). -/
def execLsrExt (addr : Word) (s : State) : Result := .next (modify (.mem (.ext addr)) lsrByte s)

/-- NEG ACCA, opcode 40 (R158). -/
def execNegA (s : State) : Result := .next (modify (.acc .a) negByte s)

/-- NEG ACCB, opcode 50 (R158). -/
def execNegB (s : State) : Result := .next (modify (.acc .b) negByte s)

/-- NEG IND, opcode 60 (R158). -/
def execNegInd (offset : Byte) (s : State) : Result := .next (modify (.mem (.ind offset)) negByte s)

/-- NEG EXT, opcode 70 (R158). -/
def execNegExt (addr : Word) (s : State) : Result := .next (modify (.mem (.ext addr)) negByte s)

/-- ROL ACCA, opcode 49 (R159). -/
def execRolA (s : State) : Result := .next (modify (.acc .a) rolByte s)

/-- ROL ACCB, opcode 59 (R159). -/
def execRolB (s : State) : Result := .next (modify (.acc .b) rolByte s)

/-- ROL IND, opcode 69 (R159). -/
def execRolInd (offset : Byte) (s : State) : Result := .next (modify (.mem (.ind offset)) rolByte s)

/-- ROL EXT, opcode 79 (R159). -/
def execRolExt (addr : Word) (s : State) : Result := .next (modify (.mem (.ext addr)) rolByte s)

/-- ROR ACCA, opcode 46 (R160). -/
def execRorA (s : State) : Result := .next (modify (.acc .a) rorByte s)

/-- ROR ACCB, opcode 56 (R160). -/
def execRorB (s : State) : Result := .next (modify (.acc .b) rorByte s)

/-- ROR IND, opcode 66 (R160). -/
def execRorInd (offset : Byte) (s : State) : Result := .next (modify (.mem (.ind offset)) rorByte s)

/-- ROR EXT, opcode 76 (R160). -/
def execRorExt (addr : Word) (s : State) : Result := .next (modify (.mem (.ext addr)) rorByte s)

/-- TST ACCA, opcode 4D (R161). -/
def execTstA (s : State) : Result := .next (opTst (.acc .a) s)

/-- TST ACCB, opcode 5D (R161). -/
def execTstB (s : State) : Result := .next (opTst (.acc .b) s)

/-- TST IND, opcode 6D (R161). -/
def execTstInd (offset : Byte) (s : State) : Result := .next (opTst (.mem (.ind offset)) s)

/-- TST EXT, opcode 7D (R161). -/
def execTstExt (addr : Word) (s : State) : Result := .next (opTst (.mem (.ext addr)) s)

end Sys2Proof.Machine
end

