-- ==== Sys2Proof/Machine/Dispatch.lean ====
section
/-! DEFINITION. One arm per instruction, each one call of its meaning. -/

namespace Sys2Proof.Machine

def exec (i : Instr) (s : State) : Host.Outcome State Fault Refusal :=
  match i with
  -- Accumulator and memory (40_accumulator_memory.md)
  | .adcAImm imm => Sys2Proof.Machine.execAdcAImm imm s
  | .adcADir addr => Sys2Proof.Machine.execAdcADir addr s
  | .adcAInd offset => Sys2Proof.Machine.execAdcAInd offset s
  | .adcAExt addr => Sys2Proof.Machine.execAdcAExt addr s
  | .adcBImm imm => Sys2Proof.Machine.execAdcBImm imm s
  | .adcBDir addr => Sys2Proof.Machine.execAdcBDir addr s
  | .adcBInd offset => Sys2Proof.Machine.execAdcBInd offset s
  | .adcBExt addr => Sys2Proof.Machine.execAdcBExt addr s
  | .addAImm imm => Sys2Proof.Machine.execAddAImm imm s
  | .addADir addr => Sys2Proof.Machine.execAddADir addr s
  | .addAInd offset => Sys2Proof.Machine.execAddAInd offset s
  | .addAExt addr => Sys2Proof.Machine.execAddAExt addr s
  | .addBImm imm => Sys2Proof.Machine.execAddBImm imm s
  | .addBDir addr => Sys2Proof.Machine.execAddBDir addr s
  | .addBInd offset => Sys2Proof.Machine.execAddBInd offset s
  | .addBExt addr => Sys2Proof.Machine.execAddBExt addr s
  | .andAImm imm => Sys2Proof.Machine.execAndAImm imm s
  | .andADir addr => Sys2Proof.Machine.execAndADir addr s
  | .andAInd offset => Sys2Proof.Machine.execAndAInd offset s
  | .andAExt addr => Sys2Proof.Machine.execAndAExt addr s
  | .andBImm imm => Sys2Proof.Machine.execAndBImm imm s
  | .andBDir addr => Sys2Proof.Machine.execAndBDir addr s
  | .andBInd offset => Sys2Proof.Machine.execAndBInd offset s
  | .andBExt addr => Sys2Proof.Machine.execAndBExt addr s
  | .bitAImm imm => Sys2Proof.Machine.execBitAImm imm s
  | .bitADir addr => Sys2Proof.Machine.execBitADir addr s
  | .bitAInd offset => Sys2Proof.Machine.execBitAInd offset s
  | .bitAExt addr => Sys2Proof.Machine.execBitAExt addr s
  | .bitBImm imm => Sys2Proof.Machine.execBitBImm imm s
  | .bitBDir addr => Sys2Proof.Machine.execBitBDir addr s
  | .bitBInd offset => Sys2Proof.Machine.execBitBInd offset s
  | .bitBExt addr => Sys2Proof.Machine.execBitBExt addr s
  | .cmpAImm imm => Sys2Proof.Machine.execCmpAImm imm s
  | .cmpADir addr => Sys2Proof.Machine.execCmpADir addr s
  | .cmpAInd offset => Sys2Proof.Machine.execCmpAInd offset s
  | .cmpAExt addr => Sys2Proof.Machine.execCmpAExt addr s
  | .cmpBImm imm => Sys2Proof.Machine.execCmpBImm imm s
  | .cmpBDir addr => Sys2Proof.Machine.execCmpBDir addr s
  | .cmpBInd offset => Sys2Proof.Machine.execCmpBInd offset s
  | .cmpBExt addr => Sys2Proof.Machine.execCmpBExt addr s
  | .eorAImm imm => Sys2Proof.Machine.execEorAImm imm s
  | .eorADir addr => Sys2Proof.Machine.execEorADir addr s
  | .eorAInd offset => Sys2Proof.Machine.execEorAInd offset s
  | .eorAExt addr => Sys2Proof.Machine.execEorAExt addr s
  | .eorBImm imm => Sys2Proof.Machine.execEorBImm imm s
  | .eorBDir addr => Sys2Proof.Machine.execEorBDir addr s
  | .eorBInd offset => Sys2Proof.Machine.execEorBInd offset s
  | .eorBExt addr => Sys2Proof.Machine.execEorBExt addr s
  | .ldaAImm imm => Sys2Proof.Machine.execLdaAImm imm s
  | .ldaADir addr => Sys2Proof.Machine.execLdaADir addr s
  | .ldaAInd offset => Sys2Proof.Machine.execLdaAInd offset s
  | .ldaAExt addr => Sys2Proof.Machine.execLdaAExt addr s
  | .ldaBImm imm => Sys2Proof.Machine.execLdaBImm imm s
  | .ldaBDir addr => Sys2Proof.Machine.execLdaBDir addr s
  | .ldaBInd offset => Sys2Proof.Machine.execLdaBInd offset s
  | .ldaBExt addr => Sys2Proof.Machine.execLdaBExt addr s
  | .oraAImm imm => Sys2Proof.Machine.execOraAImm imm s
  | .oraADir addr => Sys2Proof.Machine.execOraADir addr s
  | .oraAInd offset => Sys2Proof.Machine.execOraAInd offset s
  | .oraAExt addr => Sys2Proof.Machine.execOraAExt addr s
  | .oraBImm imm => Sys2Proof.Machine.execOraBImm imm s
  | .oraBDir addr => Sys2Proof.Machine.execOraBDir addr s
  | .oraBInd offset => Sys2Proof.Machine.execOraBInd offset s
  | .oraBExt addr => Sys2Proof.Machine.execOraBExt addr s
  | .sbcAImm imm => Sys2Proof.Machine.execSbcAImm imm s
  | .sbcADir addr => Sys2Proof.Machine.execSbcADir addr s
  | .sbcAInd offset => Sys2Proof.Machine.execSbcAInd offset s
  | .sbcAExt addr => Sys2Proof.Machine.execSbcAExt addr s
  | .sbcBImm imm => Sys2Proof.Machine.execSbcBImm imm s
  | .sbcBDir addr => Sys2Proof.Machine.execSbcBDir addr s
  | .sbcBInd offset => Sys2Proof.Machine.execSbcBInd offset s
  | .sbcBExt addr => Sys2Proof.Machine.execSbcBExt addr s
  | .subAImm imm => Sys2Proof.Machine.execSubAImm imm s
  | .subADir addr => Sys2Proof.Machine.execSubADir addr s
  | .subAInd offset => Sys2Proof.Machine.execSubAInd offset s
  | .subAExt addr => Sys2Proof.Machine.execSubAExt addr s
  | .subBImm imm => Sys2Proof.Machine.execSubBImm imm s
  | .subBDir addr => Sys2Proof.Machine.execSubBDir addr s
  | .subBInd offset => Sys2Proof.Machine.execSubBInd offset s
  | .subBExt addr => Sys2Proof.Machine.execSubBExt addr s
  | .staADir addr => Sys2Proof.Machine.execStaADir addr s
  | .staAInd offset => Sys2Proof.Machine.execStaAInd offset s
  | .staAExt addr => Sys2Proof.Machine.execStaAExt addr s
  | .staBDir addr => Sys2Proof.Machine.execStaBDir addr s
  | .staBInd offset => Sys2Proof.Machine.execStaBInd offset s
  | .staBExt addr => Sys2Proof.Machine.execStaBExt addr s
  -- Single operand (41_single_operand.md)
  | .aslA => Sys2Proof.Machine.execAslA s
  | .aslB => Sys2Proof.Machine.execAslB s
  | .aslInd offset => Sys2Proof.Machine.execAslInd offset s
  | .aslExt addr => Sys2Proof.Machine.execAslExt addr s
  | .asrA => Sys2Proof.Machine.execAsrA s
  | .asrB => Sys2Proof.Machine.execAsrB s
  | .asrInd offset => Sys2Proof.Machine.execAsrInd offset s
  | .asrExt addr => Sys2Proof.Machine.execAsrExt addr s
  | .clrA => Sys2Proof.Machine.execClrA s
  | .clrB => Sys2Proof.Machine.execClrB s
  | .clrInd offset => Sys2Proof.Machine.execClrInd offset s
  | .clrExt addr => Sys2Proof.Machine.execClrExt addr s
  | .comA => Sys2Proof.Machine.execComA s
  | .comB => Sys2Proof.Machine.execComB s
  | .comInd offset => Sys2Proof.Machine.execComInd offset s
  | .comExt addr => Sys2Proof.Machine.execComExt addr s
  | .decA => Sys2Proof.Machine.execDecA s
  | .decB => Sys2Proof.Machine.execDecB s
  | .decInd offset => Sys2Proof.Machine.execDecInd offset s
  | .decExt addr => Sys2Proof.Machine.execDecExt addr s
  | .incA => Sys2Proof.Machine.execIncA s
  | .incB => Sys2Proof.Machine.execIncB s
  | .incInd offset => Sys2Proof.Machine.execIncInd offset s
  | .incExt addr => Sys2Proof.Machine.execIncExt addr s
  | .lsrA => Sys2Proof.Machine.execLsrA s
  | .lsrB => Sys2Proof.Machine.execLsrB s
  | .lsrInd offset => Sys2Proof.Machine.execLsrInd offset s
  | .lsrExt addr => Sys2Proof.Machine.execLsrExt addr s
  | .negA => Sys2Proof.Machine.execNegA s
  | .negB => Sys2Proof.Machine.execNegB s
  | .negInd offset => Sys2Proof.Machine.execNegInd offset s
  | .negExt addr => Sys2Proof.Machine.execNegExt addr s
  | .rolA => Sys2Proof.Machine.execRolA s
  | .rolB => Sys2Proof.Machine.execRolB s
  | .rolInd offset => Sys2Proof.Machine.execRolInd offset s
  | .rolExt addr => Sys2Proof.Machine.execRolExt addr s
  | .rorA => Sys2Proof.Machine.execRorA s
  | .rorB => Sys2Proof.Machine.execRorB s
  | .rorInd offset => Sys2Proof.Machine.execRorInd offset s
  | .rorExt addr => Sys2Proof.Machine.execRorExt addr s
  | .tstA => Sys2Proof.Machine.execTstA s
  | .tstB => Sys2Proof.Machine.execTstB s
  | .tstInd offset => Sys2Proof.Machine.execTstInd offset s
  | .tstExt addr => Sys2Proof.Machine.execTstExt addr s
  -- Accumulator to accumulator, decimal adjust, accumulator stack (42_accumulator_inherent.md)
  | .aba => Sys2Proof.Machine.execAba s
  | .cba => Sys2Proof.Machine.execCba s
  | .sba => Sys2Proof.Machine.execSba s
  | .tab => Sys2Proof.Machine.execTab s
  | .tba => Sys2Proof.Machine.execTba s
  | .daa => Sys2Proof.Machine.execDaa s
  | .pshA => Sys2Proof.Machine.execPshA s
  | .pshB => Sys2Proof.Machine.execPshB s
  | .pulA => Sys2Proof.Machine.execPulA s
  | .pulB => Sys2Proof.Machine.execPulB s
  -- Index register and stack pointer (43_index_and_stack_pointer.md)
  | .cpxImm imm => Sys2Proof.Machine.execCpxImm imm s
  | .cpxDir addr => Sys2Proof.Machine.execCpxDir addr s
  | .cpxInd offset => Sys2Proof.Machine.execCpxInd offset s
  | .cpxExt addr => Sys2Proof.Machine.execCpxExt addr s
  | .ldsImm imm => Sys2Proof.Machine.execLdsImm imm s
  | .ldsDir addr => Sys2Proof.Machine.execLdsDir addr s
  | .ldsInd offset => Sys2Proof.Machine.execLdsInd offset s
  | .ldsExt addr => Sys2Proof.Machine.execLdsExt addr s
  | .ldxImm imm => Sys2Proof.Machine.execLdxImm imm s
  | .ldxDir addr => Sys2Proof.Machine.execLdxDir addr s
  | .ldxInd offset => Sys2Proof.Machine.execLdxInd offset s
  | .ldxExt addr => Sys2Proof.Machine.execLdxExt addr s
  | .stsDir addr => Sys2Proof.Machine.execStsDir addr s
  | .stsInd offset => Sys2Proof.Machine.execStsInd offset s
  | .stsExt addr => Sys2Proof.Machine.execStsExt addr s
  | .stxDir addr => Sys2Proof.Machine.execStxDir addr s
  | .stxInd offset => Sys2Proof.Machine.execStxInd offset s
  | .stxExt addr => Sys2Proof.Machine.execStxExt addr s
  | .des => Sys2Proof.Machine.execDes s
  | .dex => Sys2Proof.Machine.execDex s
  | .ins => Sys2Proof.Machine.execIns s
  | .inx => Sys2Proof.Machine.execInx s
  | .tsx => Sys2Proof.Machine.execTsx s
  | .txs => Sys2Proof.Machine.execTxs s
  -- Branches (44_branch.md)
  | .bra rel => Sys2Proof.Machine.execBra rel s
  | .bcc rel => Sys2Proof.Machine.execBcc rel s
  | .bcs rel => Sys2Proof.Machine.execBcs rel s
  | .beq rel => Sys2Proof.Machine.execBeq rel s
  | .bge rel => Sys2Proof.Machine.execBge rel s
  | .bgt rel => Sys2Proof.Machine.execBgt rel s
  | .bhi rel => Sys2Proof.Machine.execBhi rel s
  | .ble rel => Sys2Proof.Machine.execBle rel s
  | .bls rel => Sys2Proof.Machine.execBls rel s
  | .blt rel => Sys2Proof.Machine.execBlt rel s
  | .bmi rel => Sys2Proof.Machine.execBmi rel s
  | .bne rel => Sys2Proof.Machine.execBne rel s
  | .bpl rel => Sys2Proof.Machine.execBpl rel s
  | .bvc rel => Sys2Proof.Machine.execBvc rel s
  | .bvs rel => Sys2Proof.Machine.execBvs rel s
  | .bsr rel => Sys2Proof.Machine.execBsr rel s
  -- Jumps and subroutines (45_jump_and_subroutine.md)
  | .jmpInd offset => Sys2Proof.Machine.execJmpInd offset s
  | .jmpExt addr => Sys2Proof.Machine.execJmpExt addr s
  | .jsrInd offset => Sys2Proof.Machine.execJsrInd offset s
  | .jsrExt addr => Sys2Proof.Machine.execJsrExt addr s
  | .rts => Sys2Proof.Machine.execRts s
  -- Condition codes and NOP (46_condition_code_and_nop.md)
  | .clc => Sys2Proof.Machine.execClc s
  | .cli => Sys2Proof.Machine.execCli s
  | .clv => Sys2Proof.Machine.execClv s
  | .sec => Sys2Proof.Machine.execSec s
  | .sei => Sys2Proof.Machine.execSei s
  | .sev => Sys2Proof.Machine.execSev s
  | .tap => Sys2Proof.Machine.execTap s
  | .tpa => Sys2Proof.Machine.execTpa s
  | .nop => Sys2Proof.Machine.execNop s
  -- Interrupt instructions (47_interrupt_instructions.md)
  | .swi => Sys2Proof.Machine.execSwi s
  | .wai => Sys2Proof.Machine.execWai s
  | .rti => Sys2Proof.Machine.execRti s

end Sys2Proof.Machine
end

