-- ==== Sys2Proof/WellFormed.lean ====
section
/-! DEFINITION. What may be ill-formed. 30_encoding.md R93: every operand byte is fully used and all its values
are legal, so every term of `Instr` is well-formed: its operands are bytes and words, nothing more is asked.
What can be ill-formed is a sequence of bytes offered as ONE instruction: it may be empty, begin with one of
the 59 unassigned values (R91), or have another length than its first byte fixes (R92). -/

namespace Sys2Proof

/-- The 59 first bytes that no instruction page lists (R91). -/
def unassignedOpcodes : List Byte :=
  [0x00, 0x02, 0x03, 0x04, 0x05, 0x12, 0x13, 0x14, 0x15, 0x18, 0x1A, 0x1C, 0x1D, 0x1E, 0x1F,
   0x21, 0x38, 0x3A, 0x3C, 0x3D, 0x41, 0x42, 0x45, 0x4B, 0x4E, 0x51, 0x52, 0x55, 0x5B, 0x5E,
   0x61, 0x62, 0x65, 0x6B, 0x71, 0x72, 0x75, 0x7B, 0x83, 0x87, 0x8F, 0x93, 0x9D, 0xA3, 0xB3,
   0xC3, 0xC7, 0xCC, 0xCD, 0xCF, 0xD3, 0xDC, 0xDD, 0xE3, 0xEC, 0xED, 0xF3, 0xFC, 0xFD]

/-- A first byte that R90 assigns (R91). -/
def assignedOpcode (op : Byte) : Bool := !unassignedOpcodes.contains op

/-- Length in bytes from the first byte (R92), meaningful for assigned opcodes only. -/
def opcodeLength (op : Byte) : Nat :=
  let hi := op.toNat / 16
  let lo := op.toNat % 16
  if [0x0, 0x1, 0x3, 0x4, 0x5].contains hi then 1
  else if [0x2, 0x6, 0x9, 0xA, 0xD, 0xE].contains hi then 2
  else if [0x7, 0xB, 0xF].contains hi then 3
  else if lo = 0xC ∨ lo = 0xE then 3 else 2

/-- The bytes are exactly one instruction: not empty (R80), an assigned first byte (R91), its length (R92). -/
def wellFormedCode : List Byte → Bool
  | [] => false
  | op :: operands => assignedOpcode op && (operands.length + 1 == opcodeLength op)

/-- Every instruction term is well-formed: all values of imm8, addr8, offset8, rel8, imm16 and addr16 are legal
(R93), and the constructor itself is the opcode. -/
def Instr.wellFormed (_ : Instr) : Bool := true

end Sys2Proof
end

