-- ==== Sys2Proof/Decode.lean ====
section
/-! DEFINITION. The decoder, driven by the opcode map of 30_encoding.md R90, and the encoder, written opcode by
opcode from the encoding lines of the instruction rules. -/

namespace Sys2Proof

open Machine (hi8 lo8 wordOf)

/-- Why the decoder rejects: no byte at all, a first byte of R91, or fewer operand bytes than the format has (R81). -/
inductive DecodeError where
  | noBytes
  | illegalOpcode (op : Byte)
  | truncated (op : Byte)
deriving DecidableEq, Repr

/-- What decoding answers: an instruction and the bytes after it, or a rejection by name. -/
inductive Decoded where
  | ok (i : Instr) (rest : List Byte)
  | rejected (why : DecodeError)
deriving DecidableEq, Repr

/-- The operand bytes of a format (R81): none (INH, ACC), one (IMM8, DIR, IND, REL), or two, the more
significant first (IMM16, EXT; R84, R86). -/
inductive Layout where
  | bare (i : Instr)
  | byte (f : Byte → Instr)
  | word (f : Word → Instr)

/-- Row 0x of the map of R90, columns 0 to F. Condition codes, index increment and decrement. -/
def opcodeRow0 : List (Option Layout) :=
  [none, some (.bare .nop), none, none,
   none, none, some (.bare .tap), some (.bare .tpa),
   some (.bare .inx), some (.bare .dex), some (.bare .clv), some (.bare .sev),
   some (.bare .clc), some (.bare .sec), some (.bare .cli), some (.bare .sei)]

/-- Row 1x of the map of R90, columns 0 to F. Accumulator to accumulator. -/
def opcodeRow1 : List (Option Layout) :=
  [some (.bare .sba), some (.bare .cba), none, none,
   none, none, some (.bare .tab), some (.bare .tba),
   none, some (.bare .daa), none, some (.bare .aba),
   none, none, none, none]

/-- Row 2x of the map of R90, columns 0 to F. Branches. -/
def opcodeRow2 : List (Option Layout) :=
  [some (.byte .bra), none, some (.byte .bhi), some (.byte .bls),
   some (.byte .bcc), some (.byte .bcs), some (.byte .bne), some (.byte .beq),
   some (.byte .bvc), some (.byte .bvs), some (.byte .bpl), some (.byte .bmi),
   some (.byte .bge), some (.byte .blt), some (.byte .bgt), some (.byte .ble)]

/-- Row 3x of the map of R90, columns 0 to F. Stack pointer, push, pull, returns, WAI, SWI. -/
def opcodeRow3 : List (Option Layout) :=
  [some (.bare .tsx), some (.bare .ins), some (.bare .pulA), some (.bare .pulB),
   some (.bare .des), some (.bare .txs), some (.bare .pshA), some (.bare .pshB),
   none, some (.bare .rts), none, some (.bare .rti),
   none, none, some (.bare .wai), some (.bare .swi)]

/-- Row 4x of the map of R90, columns 0 to F. Single operand on ACCA. -/
def opcodeRow4 : List (Option Layout) :=
  [some (.bare .negA), none, none, some (.bare .comA),
   some (.bare .lsrA), none, some (.bare .rorA), some (.bare .asrA),
   some (.bare .aslA), some (.bare .rolA), some (.bare .decA), none,
   some (.bare .incA), some (.bare .tstA), none, some (.bare .clrA)]

/-- Row 5x of the map of R90, columns 0 to F. Single operand on ACCB. -/
def opcodeRow5 : List (Option Layout) :=
  [some (.bare .negB), none, none, some (.bare .comB),
   some (.bare .lsrB), none, some (.bare .rorB), some (.bare .asrB),
   some (.bare .aslB), some (.bare .rolB), some (.bare .decB), none,
   some (.bare .incB), some (.bare .tstB), none, some (.bare .clrB)]

/-- Row 6x of the map of R90, columns 0 to F. Single operand and JMP, indexed. -/
def opcodeRow6 : List (Option Layout) :=
  [some (.byte .negInd), none, none, some (.byte .comInd),
   some (.byte .lsrInd), none, some (.byte .rorInd), some (.byte .asrInd),
   some (.byte .aslInd), some (.byte .rolInd), some (.byte .decInd), none,
   some (.byte .incInd), some (.byte .tstInd), some (.byte .jmpInd), some (.byte .clrInd)]

/-- Row 7x of the map of R90, columns 0 to F. Single operand and JMP, extended. -/
def opcodeRow7 : List (Option Layout) :=
  [some (.word .negExt), none, none, some (.word .comExt),
   some (.word .lsrExt), none, some (.word .rorExt), some (.word .asrExt),
   some (.word .aslExt), some (.word .rolExt), some (.word .decExt), none,
   some (.word .incExt), some (.word .tstExt), some (.word .jmpExt), some (.word .clrExt)]

/-- Row 8x of the map of R90, columns 0 to F. ACCA, CPX, LDS immediate; BSR. -/
def opcodeRow8 : List (Option Layout) :=
  [some (.byte .subAImm), some (.byte .cmpAImm), some (.byte .sbcAImm), none,
   some (.byte .andAImm), some (.byte .bitAImm), some (.byte .ldaAImm), none,
   some (.byte .eorAImm), some (.byte .adcAImm), some (.byte .oraAImm), some (.byte .addAImm),
   some (.word .cpxImm), some (.byte .bsr), some (.word .ldsImm), none]

/-- Row 9x of the map of R90, columns 0 to F. ACCA, CPX, LDS, STS direct. -/
def opcodeRow9 : List (Option Layout) :=
  [some (.byte .subADir), some (.byte .cmpADir), some (.byte .sbcADir), none,
   some (.byte .andADir), some (.byte .bitADir), some (.byte .ldaADir), some (.byte .staADir),
   some (.byte .eorADir), some (.byte .adcADir), some (.byte .oraADir), some (.byte .addADir),
   some (.byte .cpxDir), none, some (.byte .ldsDir), some (.byte .stsDir)]

/-- Row Ax of the map of R90, columns 0 to F. ACCA, CPX, LDS, STS, JSR indexed. -/
def opcodeRowA : List (Option Layout) :=
  [some (.byte .subAInd), some (.byte .cmpAInd), some (.byte .sbcAInd), none,
   some (.byte .andAInd), some (.byte .bitAInd), some (.byte .ldaAInd), some (.byte .staAInd),
   some (.byte .eorAInd), some (.byte .adcAInd), some (.byte .oraAInd), some (.byte .addAInd),
   some (.byte .cpxInd), some (.byte .jsrInd), some (.byte .ldsInd), some (.byte .stsInd)]

/-- Row Bx of the map of R90, columns 0 to F. ACCA, CPX, LDS, STS, JSR extended. -/
def opcodeRowB : List (Option Layout) :=
  [some (.word .subAExt), some (.word .cmpAExt), some (.word .sbcAExt), none,
   some (.word .andAExt), some (.word .bitAExt), some (.word .ldaAExt), some (.word .staAExt),
   some (.word .eorAExt), some (.word .adcAExt), some (.word .oraAExt), some (.word .addAExt),
   some (.word .cpxExt), some (.word .jsrExt), some (.word .ldsExt), some (.word .stsExt)]

/-- Row Cx of the map of R90, columns 0 to F. ACCB, LDX immediate. -/
def opcodeRowC : List (Option Layout) :=
  [some (.byte .subBImm), some (.byte .cmpBImm), some (.byte .sbcBImm), none,
   some (.byte .andBImm), some (.byte .bitBImm), some (.byte .ldaBImm), none,
   some (.byte .eorBImm), some (.byte .adcBImm), some (.byte .oraBImm), some (.byte .addBImm),
   none, none, some (.word .ldxImm), none]

/-- Row Dx of the map of R90, columns 0 to F. ACCB, LDX, STX direct. -/
def opcodeRowD : List (Option Layout) :=
  [some (.byte .subBDir), some (.byte .cmpBDir), some (.byte .sbcBDir), none,
   some (.byte .andBDir), some (.byte .bitBDir), some (.byte .ldaBDir), some (.byte .staBDir),
   some (.byte .eorBDir), some (.byte .adcBDir), some (.byte .oraBDir), some (.byte .addBDir),
   none, none, some (.byte .ldxDir), some (.byte .stxDir)]

/-- Row Ex of the map of R90, columns 0 to F. ACCB, LDX, STX indexed. -/
def opcodeRowE : List (Option Layout) :=
  [some (.byte .subBInd), some (.byte .cmpBInd), some (.byte .sbcBInd), none,
   some (.byte .andBInd), some (.byte .bitBInd), some (.byte .ldaBInd), some (.byte .staBInd),
   some (.byte .eorBInd), some (.byte .adcBInd), some (.byte .oraBInd), some (.byte .addBInd),
   none, none, some (.byte .ldxInd), some (.byte .stxInd)]

/-- Row Fx of the map of R90, columns 0 to F. ACCB, LDX, STX extended. -/
def opcodeRowF : List (Option Layout) :=
  [some (.word .subBExt), some (.word .cmpBExt), some (.word .sbcBExt), none,
   some (.word .andBExt), some (.word .bitBExt), some (.word .ldaBExt), some (.word .staBExt),
   some (.word .eorBExt), some (.word .adcBExt), some (.word .oraBExt), some (.word .addBExt),
   none, none, some (.word .ldxExt), some (.word .stxExt)]

/-- The opcode map: high nibble, then low nibble (R89, R90). -/
def opcodeMap : List (List (Option Layout)) :=
  [opcodeRow0, opcodeRow1, opcodeRow2, opcodeRow3, opcodeRow4, opcodeRow5, opcodeRow6, opcodeRow7,
   opcodeRow8, opcodeRow9, opcodeRowA, opcodeRowB, opcodeRowC, opcodeRowD, opcodeRowE, opcodeRowF]

/-- The cell of the map that a first byte selects; `none` for the unassigned ones (R91). -/
def layoutOf (op : Byte) : Option Layout :=
  (opcodeMap.getD (op.toNat / 16) []).getD (op.toNat % 16) none

/-- How many operand bytes follow a first byte; none are asked for after an unassigned one. -/
def operandCount (op : Byte) : Nat :=
  match layoutOf op with
  | some (.byte _) => 1
  | some (.word _) => 2
  | _ => 0

/-- Decoding: the first byte alone selects the instruction and its format, the operand bytes follow (R80, R81). -/
def decode : List Byte → Decoded
  | [] => .rejected .noBytes
  | op :: rest =>
    match layoutOf op, rest with
    | none, _ => .rejected (.illegalOpcode op)
    | some (.bare i), rest => .ok i rest
    | some (.byte f), b1 :: rest => .ok (f b1) rest
    | some (.byte _), [] => .rejected (.truncated op)
    | some (.word f), b1 :: b2 :: rest => .ok (f (wordOf b1 b2)) rest
    | some (.word _), _ => .rejected (.truncated op)

/-- The bytes of an instruction, first byte first (R81 for the operand bytes, the rule named for the opcode). -/
def encode : Instr → List Byte
  -- ADC: R121
  | .adcAImm imm => [0x89, imm]
  | .adcADir addr => [0x99, addr]
  | .adcAInd offset => [0xA9, offset]
  | .adcAExt addr => [0xB9, hi8 addr, lo8 addr]
  | .adcBImm imm => [0xC9, imm]
  | .adcBDir addr => [0xD9, addr]
  | .adcBInd offset => [0xE9, offset]
  | .adcBExt addr => [0xF9, hi8 addr, lo8 addr]
  -- ADD: R122
  | .addAImm imm => [0x8B, imm]
  | .addADir addr => [0x9B, addr]
  | .addAInd offset => [0xAB, offset]
  | .addAExt addr => [0xBB, hi8 addr, lo8 addr]
  | .addBImm imm => [0xCB, imm]
  | .addBDir addr => [0xDB, addr]
  | .addBInd offset => [0xEB, offset]
  | .addBExt addr => [0xFB, hi8 addr, lo8 addr]
  -- AND: R123
  | .andAImm imm => [0x84, imm]
  | .andADir addr => [0x94, addr]
  | .andAInd offset => [0xA4, offset]
  | .andAExt addr => [0xB4, hi8 addr, lo8 addr]
  | .andBImm imm => [0xC4, imm]
  | .andBDir addr => [0xD4, addr]
  | .andBInd offset => [0xE4, offset]
  | .andBExt addr => [0xF4, hi8 addr, lo8 addr]
  -- BIT: R124
  | .bitAImm imm => [0x85, imm]
  | .bitADir addr => [0x95, addr]
  | .bitAInd offset => [0xA5, offset]
  | .bitAExt addr => [0xB5, hi8 addr, lo8 addr]
  | .bitBImm imm => [0xC5, imm]
  | .bitBDir addr => [0xD5, addr]
  | .bitBInd offset => [0xE5, offset]
  | .bitBExt addr => [0xF5, hi8 addr, lo8 addr]
  -- CMP: R125
  | .cmpAImm imm => [0x81, imm]
  | .cmpADir addr => [0x91, addr]
  | .cmpAInd offset => [0xA1, offset]
  | .cmpAExt addr => [0xB1, hi8 addr, lo8 addr]
  | .cmpBImm imm => [0xC1, imm]
  | .cmpBDir addr => [0xD1, addr]
  | .cmpBInd offset => [0xE1, offset]
  | .cmpBExt addr => [0xF1, hi8 addr, lo8 addr]
  -- EOR: R126
  | .eorAImm imm => [0x88, imm]
  | .eorADir addr => [0x98, addr]
  | .eorAInd offset => [0xA8, offset]
  | .eorAExt addr => [0xB8, hi8 addr, lo8 addr]
  | .eorBImm imm => [0xC8, imm]
  | .eorBDir addr => [0xD8, addr]
  | .eorBInd offset => [0xE8, offset]
  | .eorBExt addr => [0xF8, hi8 addr, lo8 addr]
  -- LDA: R127
  | .ldaAImm imm => [0x86, imm]
  | .ldaADir addr => [0x96, addr]
  | .ldaAInd offset => [0xA6, offset]
  | .ldaAExt addr => [0xB6, hi8 addr, lo8 addr]
  | .ldaBImm imm => [0xC6, imm]
  | .ldaBDir addr => [0xD6, addr]
  | .ldaBInd offset => [0xE6, offset]
  | .ldaBExt addr => [0xF6, hi8 addr, lo8 addr]
  -- ORA: R128
  | .oraAImm imm => [0x8A, imm]
  | .oraADir addr => [0x9A, addr]
  | .oraAInd offset => [0xAA, offset]
  | .oraAExt addr => [0xBA, hi8 addr, lo8 addr]
  | .oraBImm imm => [0xCA, imm]
  | .oraBDir addr => [0xDA, addr]
  | .oraBInd offset => [0xEA, offset]
  | .oraBExt addr => [0xFA, hi8 addr, lo8 addr]
  -- SBC: R129
  | .sbcAImm imm => [0x82, imm]
  | .sbcADir addr => [0x92, addr]
  | .sbcAInd offset => [0xA2, offset]
  | .sbcAExt addr => [0xB2, hi8 addr, lo8 addr]
  | .sbcBImm imm => [0xC2, imm]
  | .sbcBDir addr => [0xD2, addr]
  | .sbcBInd offset => [0xE2, offset]
  | .sbcBExt addr => [0xF2, hi8 addr, lo8 addr]
  -- SUB: R130
  | .subAImm imm => [0x80, imm]
  | .subADir addr => [0x90, addr]
  | .subAInd offset => [0xA0, offset]
  | .subAExt addr => [0xB0, hi8 addr, lo8 addr]
  | .subBImm imm => [0xC0, imm]
  | .subBDir addr => [0xD0, addr]
  | .subBInd offset => [0xE0, offset]
  | .subBExt addr => [0xF0, hi8 addr, lo8 addr]
  -- STA: R131
  | .staADir addr => [0x97, addr]
  | .staAInd offset => [0xA7, offset]
  | .staAExt addr => [0xB7, hi8 addr, lo8 addr]
  | .staBDir addr => [0xD7, addr]
  | .staBInd offset => [0xE7, offset]
  | .staBExt addr => [0xF7, hi8 addr, lo8 addr]
  -- ASL: R151
  | .aslA => [0x48]
  | .aslB => [0x58]
  | .aslInd offset => [0x68, offset]
  | .aslExt addr => [0x78, hi8 addr, lo8 addr]
  -- ASR: R152
  | .asrA => [0x47]
  | .asrB => [0x57]
  | .asrInd offset => [0x67, offset]
  | .asrExt addr => [0x77, hi8 addr, lo8 addr]
  -- CLR: R153
  | .clrA => [0x4F]
  | .clrB => [0x5F]
  | .clrInd offset => [0x6F, offset]
  | .clrExt addr => [0x7F, hi8 addr, lo8 addr]
  -- COM: R154
  | .comA => [0x43]
  | .comB => [0x53]
  | .comInd offset => [0x63, offset]
  | .comExt addr => [0x73, hi8 addr, lo8 addr]
  -- DEC: R155
  | .decA => [0x4A]
  | .decB => [0x5A]
  | .decInd offset => [0x6A, offset]
  | .decExt addr => [0x7A, hi8 addr, lo8 addr]
  -- INC: R156
  | .incA => [0x4C]
  | .incB => [0x5C]
  | .incInd offset => [0x6C, offset]
  | .incExt addr => [0x7C, hi8 addr, lo8 addr]
  -- LSR: R157
  | .lsrA => [0x44]
  | .lsrB => [0x54]
  | .lsrInd offset => [0x64, offset]
  | .lsrExt addr => [0x74, hi8 addr, lo8 addr]
  -- NEG: R158
  | .negA => [0x40]
  | .negB => [0x50]
  | .negInd offset => [0x60, offset]
  | .negExt addr => [0x70, hi8 addr, lo8 addr]
  -- ROL: R159
  | .rolA => [0x49]
  | .rolB => [0x59]
  | .rolInd offset => [0x69, offset]
  | .rolExt addr => [0x79, hi8 addr, lo8 addr]
  -- ROR: R160
  | .rorA => [0x46]
  | .rorB => [0x56]
  | .rorInd offset => [0x66, offset]
  | .rorExt addr => [0x76, hi8 addr, lo8 addr]
  -- TST: R161
  | .tstA => [0x4D]
  | .tstB => [0x5D]
  | .tstInd offset => [0x6D, offset]
  | .tstExt addr => [0x7D, hi8 addr, lo8 addr]
  -- ABA: R180
  | .aba => [0x1B]
  -- CBA: R181
  | .cba => [0x11]
  -- SBA: R182
  | .sba => [0x10]
  -- TAB: R183
  | .tab => [0x16]
  -- TBA: R184
  | .tba => [0x17]
  -- DAA: R185
  | .daa => [0x19]
  -- PSH: R186
  | .pshA => [0x36]
  | .pshB => [0x37]
  -- PUL: R187
  | .pulA => [0x32]
  | .pulB => [0x33]
  -- CPX: R201
  | .cpxImm imm => [0x8C, hi8 imm, lo8 imm]
  | .cpxDir addr => [0x9C, addr]
  | .cpxInd offset => [0xAC, offset]
  | .cpxExt addr => [0xBC, hi8 addr, lo8 addr]
  -- LDS: R202
  | .ldsImm imm => [0x8E, hi8 imm, lo8 imm]
  | .ldsDir addr => [0x9E, addr]
  | .ldsInd offset => [0xAE, offset]
  | .ldsExt addr => [0xBE, hi8 addr, lo8 addr]
  -- LDX: R203
  | .ldxImm imm => [0xCE, hi8 imm, lo8 imm]
  | .ldxDir addr => [0xDE, addr]
  | .ldxInd offset => [0xEE, offset]
  | .ldxExt addr => [0xFE, hi8 addr, lo8 addr]
  -- STS: R204
  | .stsDir addr => [0x9F, addr]
  | .stsInd offset => [0xAF, offset]
  | .stsExt addr => [0xBF, hi8 addr, lo8 addr]
  -- STX: R205
  | .stxDir addr => [0xDF, addr]
  | .stxInd offset => [0xEF, offset]
  | .stxExt addr => [0xFF, hi8 addr, lo8 addr]
  -- DES: R206
  | .des => [0x34]
  -- DEX: R207
  | .dex => [0x09]
  -- INS: R208
  | .ins => [0x31]
  -- INX: R209
  | .inx => [0x08]
  -- TSX: R210
  | .tsx => [0x30]
  -- TXS: R211
  | .txs => [0x35]
  -- BRA: R231
  | .bra rel => [0x20, rel]
  -- BCC: R232
  | .bcc rel => [0x24, rel]
  -- BCS: R233
  | .bcs rel => [0x25, rel]
  -- BEQ: R234
  | .beq rel => [0x27, rel]
  -- BGE: R235
  | .bge rel => [0x2C, rel]
  -- BGT: R236
  | .bgt rel => [0x2E, rel]
  -- BHI: R237
  | .bhi rel => [0x22, rel]
  -- BLE: R238
  | .ble rel => [0x2F, rel]
  -- BLS: R239
  | .bls rel => [0x23, rel]
  -- BLT: R240
  | .blt rel => [0x2D, rel]
  -- BMI: R241
  | .bmi rel => [0x2B, rel]
  -- BNE: R242
  | .bne rel => [0x26, rel]
  -- BPL: R243
  | .bpl rel => [0x2A, rel]
  -- BVC: R244
  | .bvc rel => [0x28, rel]
  -- BVS: R245
  | .bvs rel => [0x29, rel]
  -- BSR: R246
  | .bsr rel => [0x8D, rel]
  -- JMP: R260
  | .jmpInd offset => [0x6E, offset]
  | .jmpExt addr => [0x7E, hi8 addr, lo8 addr]
  -- JSR: R261
  | .jsrInd offset => [0xAD, offset]
  | .jsrExt addr => [0xBD, hi8 addr, lo8 addr]
  -- RTS: R262
  | .rts => [0x39]
  -- CLC: R270
  | .clc => [0x0C]
  -- CLI: R271
  | .cli => [0x0E]
  -- CLV: R272
  | .clv => [0x0A]
  -- SEC: R273
  | .sec => [0x0D]
  -- SEI: R274
  | .sei => [0x0F]
  -- SEV: R275
  | .sev => [0x0B]
  -- TAP: R276
  | .tap => [0x06]
  -- TPA: R277
  | .tpa => [0x07]
  -- NOP: R278
  | .nop => [0x01]
  -- SWI: R290
  | .swi => [0x3F]
  -- WAI: R291
  | .wai => [0x3E]
  -- RTI: R292
  | .rti => [0x3B]

/-- Byte `k` of an instruction whose bits are `w`, numbered with the first byte in bits 7..0 and only the low
`nbits` of them given. -/
def tableByte (nbits w k : Nat) : Byte := BitVec.ofNat 8 ((w % 2 ^ nbits) >>> (8 * k))

/-- The bytes of that instruction as the hardware stores them: the first byte at the lowest address, bits above
`nbits` zero, up to the longest instruction (three bytes, R80). -/
def tableBytes (nbits w : Nat) : List Byte := [tableByte nbits w 0, tableByte nbits w 1, tableByte nbits w 2]

/-- What the decoder reads from those bytes. -/
def decodeTableWord (nbits w : Nat) : Option Instr :=
  match decode (tableBytes nbits w) with
  | .ok i _ => some i
  | .rejected _ => none

end Sys2Proof
end

