-- ==== Sys2Proof/Machine/Timing.lean ====
section
/-! DEFINITION. Execution time of every instruction in cycles (70_reset_and_hazards.md R344). -/

namespace Sys2Proof.Machine

/-- IMM 2, DIR 3, EXT 4, IND 5: the ten instructions of Table A-1. -/
def dualCycles : Src8 → Nat
  | .imm _ => 2
  | .mem (.dir _) => 3
  | .mem (.ext _) => 4
  | .mem (.ind _) => 5

/-- DIR, EXT, IND of a store, from its direct time on: STA 4, 5, 6; STS and STX 5, 6, 7. -/
def storeCycles (direct : Nat) : Ea → Nat
  | .dir _ => direct
  | .ext _ => direct + 1
  | .ind _ => direct + 2

/-- ACC 2, EXT 6, IND 7: the eleven instructions of Table A-3. -/
def singleCycles : Place → Nat
  | .acc _ => 2
  | .mem (.ext _) => 6
  | .mem (.ind _) => 7

/-- IMM 3, DIR 4, EXT 5, IND 6: CPX, LDS, LDX. -/
def load16Cycles : Src16 → Nat
  | .imm _ => 3
  | .mem (.dir _) => 4
  | .mem (.ext _) => 5
  | .mem (.ind _) => 6

/-- JMP: EXT 3, IND 4. JSR: EXT 9, IND 8. -/
def jumpCycles : Mnemonic → Far → Nat
  | .jsr, .ext _ => 9
  | .jsr, .ind _ => 8
  | _, .ext _ => 3
  | _, .ind _ => 4

/-- The inherent instructions: 2, but for the pointer instructions and the interrupt and return instructions. -/
def inherentCycles : Mnemonic → Nat
  | .des | .dex | .ins | .inx | .tsx | .txs => 4
  | .rts => 5
  | .wai => 9
  | .rti => 10
  | .swi => 12
  | _ => 2

/-- The time of an instruction by its shape (R344). PSH and PUL take 4; a branch 4, taken or not; BSR 8. -/
def shapeCycles : Shape → Nat
  | .inherent m => inherentCycles m
  | .dual _ _ src => dualCycles src
  | .storeAcc _ e => storeCycles 4 e
  | .single _ p => singleCycles p
  | .stack _ _ => 4
  | .load16 _ src => load16Cycles src
  | .store16 _ e => storeCycles 5 e
  | .jump m f => jumpCycles m f
  | .branch m _ => if m = .bsr then 8 else 4

/-- The execution time of an instruction (R344). -/
def cyclesOf (i : Instr) : Nat := shapeCycles (shapeOf i)

end Sys2Proof.Machine
end

