-- ==== Sys2Proof/Machine/Fetch.lean ====
section
/-! DEFINITION. Fetching the bytes of the instruction at PC (00_scope.md R8 `Fetch8`, R14; 20_memory.md R52), moving
past them, and placing an instruction where the next step fetches. -/

namespace Sys2Proof.Machine

/-- The operand bytes that a format asks for, in ascending address order from `a` (R52); addresses wrap (R61). -/
def State.fetchOperands (s : State) (a : Word) : Nat → List Byte
  | 0 => []
  | n + 1 => s.fetchByte a :: s.fetchOperands (a + 1) n

/-- The bytes of the instruction at PC: the opcode, then the operand bytes its format names (R14). -/
def State.fetchBytes (s : State) : List Byte :=
  let op := s.fetchByte s.pc
  op :: s.fetchOperands (s.pc + 1) (operandCount op)

/-- The state in which an instruction's rule runs: PC = pc0 + length (R14, R25), its time added (R344), and the
instruction before it no longer the previous one (R303). -/
def State.pastInstr (s : State) (i : Instr) : State :=
  { s with
    pc := s.pc + BitVec.ofNat 16 s.fetchBytes.length
    afterUnmask := false
    cycles := s.cycles + cyclesOf i }

/-- Bytes placed in memory at ascending addresses, as a platform loads a program (10_state.md R38). -/
def Memory.place (m : Memory) (a : Word) : List Byte → Memory
  | [] => m
  | b :: rest => (m.set a.toNat b).place (a + 1) rest

/-- The map with which the three bytes at PC can be read: the same one when they lie in RAM or ROM, none otherwise. -/
def State.readableMap (s : State) : Option MemoryMap :=
  if (kindAt s.map s.pc).holdsData && (kindAt s.map (s.pc + 1)).holdsData && (kindAt s.map (s.pc + 2)).holdsData then
    s.map
  else none

/-- A request sample that would divert the next step, taken back. -/
def quietLine : List Bool → List Bool
  | true :: rest => false :: rest
  | line => line

/-- The state with the instruction bytes placed at PC, the MPU not waiting, and no request at the next step, so that
the next step fetches and runs exactly them. -/
def State.withBytes (s : State) (bytes : List Byte) : State :=
  { s with mem := s.mem.place s.pc bytes, map := s.readableMap, waiting := false, irqLine := quietLine s.irqLine }

end Sys2Proof.Machine
end

