-- ==== Sys2Proof/Machine/Step.lean ====
section
/-! DEFINITION. One step of the machine (00_scope.md R14). -/

namespace Sys2Proof.Machine

/-- One step: (1) while waiting, the step of R305; otherwise (2) interrupt entry when a request is recognised (R303,
R304); otherwise (3) the instruction at PC is fetched, PC moved past it and its rule performed. An unassigned first
byte is refused (30_encoding.md R91, D4). -/
def step (s : State) : Host.Outcome State Fault Refusal :=
  let irq := s.irq
  let t := s.beginStep
  if t.waiting then .next (t.waitStep irq)
  else if t.recognises irq then .next t.interruptEntry
  else
    match decode t.fetchBytes with
    | .ok i _ => exec i (t.pastInstr i)
    | .rejected _ => .refused (.illegalOpcode (t.fetchByte t.pc))

/-- The state with an instruction of the opcode table, its bits numbered as the table numbers them, stored where the
next step fetches (entry 18). -/
def State.withFetchWord (s : State) (nbits w : Nat) : State := s.withBytes (tableBytes nbits w)

end Sys2Proof.Machine
end

