-- ==== Sys2Proof/Machine/Accesses.lean ====
section
/-! DEFINITION. The memory accesses each instruction makes, in order, after its own bytes have been fetched
(20_memory.md R55), as a function of the instruction and of the state its rule runs in. `exec` performs the reads
and writes; this list says which and in which order, which memory alone would not show. -/

namespace Sys2Proof.Machine

/-- One byte access (R50). -/
inductive Access where
  | read (a : Word)
  | write (a : Word)
deriving DecidableEq, Repr

/-- The two bytes of a 16-bit operand, ea first (R55, D14). -/
def wordReads (a : Word) : List Access := [.read a, .read (a + 1)]

/-- The two bytes of a 16-bit store, ea first (R55, D14). -/
def wordWrites (a : Word) : List Access := [.write a, .write (a + 1)]

/-- The two writes of BSR and JSR: PCL at SP, PCH at SP - 1 (R55). -/
def callWrites (s : State) : List Access := [.write s.sp, .write (s.sp - 1)]

/-- The seven writes of a frame, at SP down to SP - 6 (R55, R67). -/
def frameWrites (s : State) : List Access :=
  [.write s.sp, .write (s.sp - 1), .write (s.sp - 2), .write (s.sp - 3), .write (s.sp - 4), .write (s.sp - 5),
   .write (s.sp - 6)]

/-- The seven reads of RTI, at SP + 1 up to SP + 7 (R55). -/
def frameReads (s : State) : List Access :=
  [.read (s.sp + 1), .read (s.sp + 2), .read (s.sp + 3), .read (s.sp + 4), .read (s.sp + 5), .read (s.sp + 6),
   .read (s.sp + 7)]

/-- A single-operand instruction on memory: TST reads, CLR writes (and reads first only if CLR_READS_FIRST), the
other nine read and then write (R55, R57). -/
def singleAccesses (m : Mnemonic) (a : Word) : List Access :=
  match m with
  | .tst => [.read a]
  | .clr => if Config.clrReadsFirst then [.read a, .write a] else [.write a]
  | _ => [.read a, .write a]

/-- The accesses of the inherent instructions (R55). -/
def inherentAccesses (m : Mnemonic) (s : State) : List Access :=
  match m with
  | .rts => wordReads (s.sp + 1)
  | .swi => frameWrites s ++ wordReads swiPointer
  | .wai => frameWrites s
  | .rti => frameReads s
  | _ => []

/-- The accesses of an instruction by its shape (R55). -/
def shapeAccesses (s : State) : Shape → List Access
  | .inherent m => inherentAccesses m s
  | .dual _ _ (.imm _) => []
  | .dual _ _ (.mem e) => [.read (s.ea e)]
  | .storeAcc _ e => [.write (s.ea e)]
  | .single _ (.acc _) => []
  | .single m (.mem f) => singleAccesses m (s.farEa f)
  | .stack m _ => if m = .psh then [.write s.sp] else [.read (s.sp + 1)]
  | .load16 _ (.imm _) => []
  | .load16 _ (.mem e) => wordReads (s.ea e)
  | .store16 _ e => wordWrites (s.ea e)
  | .jump m _ => if m = .jsr then callWrites s else []
  | .branch m _ => if m = .bsr then callWrites s else []

/-- The accesses of an instruction, in order, in the state after its bytes were fetched (R55). -/
def accesses (i : Instr) (s : State) : List Access := shapeAccesses s (shapeOf i)

/-- The addresses an instruction writes, in order. -/
def writtenAddresses (i : Instr) (s : State) : List Word :=
  (accesses i s).filterMap fun
    | .read _ => none
    | .write a => some a

end Sys2Proof.Machine
end

