-- ==== Sys2Proof/Machine/Assembler.lean ====
section
/-! DEFINITION. The assembler's operand forms (30_encoding.md R94 to R101, Tables A-1 to A-8) over operands that are
already evaluated to numbers: which mnemonic takes which form, which instruction a source line stands for. Spelling,
symbols, expressions and directives are not in the source (91_not_in_source.md N9, N10; entry 19). No step of the
machine uses this file: it decodes whichever form the bytes hold (R100). -/

namespace Sys2Proof.Machine

/-- The operand field after the accumulator letter: none, `#n`, `n`, `n,X`, or a bare `X`. -/
inductive OperandField where
  | none
  | imm (n : Nat)
  | addr (n : Nat)
  | indexed (n : Nat)
  | bareX
deriving DecidableEq, Repr

/-- What a mnemonic is to the assembler: the table it belongs to and the instruction its operand selects. -/
inductive Operator where
  | inherent (i : Instr)
  | dual (f : Acc → Src8 → Instr)
  | storeAcc (f : Acc → Ea → Instr)
  | single (f : Place → Instr)
  | stack (f : Acc → Instr)
  | load16 (f : Src16 → Instr)
  | store16 (f : Ea → Instr)
  | jump (f : Far → Instr)
  | branch (f : Byte → Instr)

/-- The table each mnemonic belongs to (R95 to R99, R82). -/
def operatorOf : Mnemonic → Operator
  | .adc => .dual adcForm
  | .add => .dual addForm
  | .and => .dual andForm
  | .bit => .dual bitForm
  | .cmp => .dual cmpForm
  | .eor => .dual eorForm
  | .lda => .dual ldaForm
  | .ora => .dual oraForm
  | .sbc => .dual sbcForm
  | .sub => .dual subForm
  | .sta => .storeAcc staForm
  | .asl => .single aslForm
  | .asr => .single asrForm
  | .clr => .single clrForm
  | .com => .single comForm
  | .dec => .single decForm
  | .inc => .single incForm
  | .lsr => .single lsrForm
  | .neg => .single negForm
  | .rol => .single rolForm
  | .ror => .single rorForm
  | .tst => .single tstForm
  | .aba => .inherent .aba
  | .cba => .inherent .cba
  | .sba => .inherent .sba
  | .tab => .inherent .tab
  | .tba => .inherent .tba
  | .daa => .inherent .daa
  | .psh => .stack pshForm
  | .pul => .stack pulForm
  | .cpx => .load16 cpxForm
  | .lds => .load16 ldsForm
  | .ldx => .load16 ldxForm
  | .sts => .store16 stsForm
  | .stx => .store16 stxForm
  | .des => .inherent .des
  | .dex => .inherent .dex
  | .ins => .inherent .ins
  | .inx => .inherent .inx
  | .tsx => .inherent .tsx
  | .txs => .inherent .txs
  | .bra => .branch .bra
  | .bcc => .branch .bcc
  | .bcs => .branch .bcs
  | .beq => .branch .beq
  | .bge => .branch .bge
  | .bgt => .branch .bgt
  | .bhi => .branch .bhi
  | .ble => .branch .ble
  | .bls => .branch .bls
  | .blt => .branch .blt
  | .bmi => .branch .bmi
  | .bne => .branch .bne
  | .bpl => .branch .bpl
  | .bvc => .branch .bvc
  | .bvs => .branch .bvs
  | .bsr => .branch .bsr
  | .jmp => .jump jmpForm
  | .jsr => .jump jsrForm
  | .rts => .inherent .rts
  | .clc => .inherent .clc
  | .cli => .inherent .cli
  | .clv => .inherent .clv
  | .sec => .inherent .sec
  | .sei => .inherent .sei
  | .sev => .inherent .sev
  | .tap => .inherent .tap
  | .tpa => .inherent .tpa
  | .nop => .inherent .nop
  | .swi => .inherent .swi
  | .wai => .inherent .wai
  | .rti => .inherent .rti

/-- A number that fits an 8-bit field. -/
def byteField (n : Nat) : Option Byte := if n < 256 then some (BitVec.ofNat 8 n) else none

/-- A number that fits a 16-bit field. -/
def wordField (n : Nat) : Option Word := if n < 65536 then some (BitVec.ofNat 16 n) else none

/-- EXTended or INDexed; a bare X is offset 0 (R87, R96, R98). -/
def farOperand : OperandField → Option Far
  | .addr n => (wordField n).map .ext
  | .indexed n => (byteField n).map .ind
  | .bareX => some (.ind 0)
  | .none => none
  | .imm _ => none

/-- DIRect when the address is 0 to 255, EXTended otherwise (R100, D19); or INDexed. -/
def eaOperand : OperandField → Option Ea
  | .addr n => if n < 256 then some (.dir (BitVec.ofNat 8 n)) else (wordField n).map .ext
  | .indexed n => (byteField n).map .ind
  | .bareX => some (.ind 0)
  | .none => none
  | .imm _ => none

/-- The second operand of Table A-1 (R95). -/
def src8Operand : OperandField → Option Src8
  | .imm n => (byteField n).map .imm
  | o => (eaOperand o).map .mem

/-- The operand of Table A-5 (R97). -/
def src16Operand : OperandField → Option Src16
  | .imm n => (wordField n).map .imm
  | o => (eaOperand o).map .mem

/-- The relative address of a branch at `pc0` to the absolute address `dest`: (dest - (pc0 + 2)) mod 256, provided
-128 ≤ dest - (pc0 + 2) ≤ 127 (R99). -/
def relOperand (pc0 : Word) (dest : Nat) : Option Byte :=
  let d : Int := (dest : Int) - ((pc0.toNat : Int) + 2)
  if -128 ≤ d ∧ d ≤ 127 then some (BitVec.ofInt 8 d) else none

/-- The instruction a source line at `pc0` stands for; none where the tables give the mnemonic no such form, or where
a number does not fit (what the assembler then does is not in the source). -/
def assemble (pc0 : Word) (m : Mnemonic) (acc : Option Acc) (operand : OperandField) : Option Instr :=
  match operatorOf m, acc, operand with
  | .inherent i, none, .none => some i
  | .dual f, some r, o => (src8Operand o).map (f r)
  | .storeAcc f, some r, o => (eaOperand o).map (f r)
  | .single f, some r, .none => some (f (.acc r))
  | .single f, none, o => (farOperand o).map fun e => f (.mem e)
  | .stack f, some r, .none => some (f r)
  | .load16 f, none, o => (src16Operand o).map f
  | .store16 f, none, o => (eaOperand o).map f
  | .jump f, none, o => (farOperand o).map f
  | .branch f, none, .addr n => (relOperand pc0 n).map f
  | _, _, _ => none

end Sys2Proof.Machine
end

