-- ==== Sys2Proof/Safety.lean ====
section
/-! DEFINITION. What counts as a safe run, and the conventions by which a harness may say that a run has ended
(92_eei_decisions.md D18: the source has no halt, so none is built into the machine). -/

namespace Sys2Proof

open Machine

/-- A run of `n` steps stays safe: no step of it faults or is refused. -/
def SafeFor (n : Nat) (s : State) : Prop := ∃ t, core.run n s = .next t

/-- The model invariant: memory in canonical form, and a waiting MPU has WAI, not CLI or TAP, as its previous
instruction (60_exceptions.md R305, last sentence). -/
def Inv (s : State) : Prop := s.mem.wf = true ∧ (s.waiting = true → s.afterUnmask = false)

/-- END_OF_RUN (a): the step runs an instruction that leaves PC equal to that instruction's own address (D18, OPEN).
DESIGN CHOICE (entry 22): any instruction counts, not only `BRA *`; a step that runs none does not, be it a step of
waiting or an interrupt entry, not even an entry whose handler stands at the interrupted PC. -/
def endsInSelfLoop (s : State) : Bool :=
  match step s with
  | .next t => !s.waiting && !s.beginStep.recognises s.irq && t.pc == s.pc
  | _ => false

/-- END_OF_RUN (b): waiting with I = 1, which no event of the machine ends (D16, D18, OPEN). DESIGN CHOICE (entry 22):
WAI has then been executed, its frame stacked and its time counted. -/
def endsInDeadWait (s : State) : Bool := s.waiting && s.cc.i

end Sys2Proof
end

