-- ==== Sys2Proof/Certificates/Slice0/Obligations.lean ====
section
/-! DEFINITION. The statements for the provers. First the vocabulary of the spec in which they are written (results
and flags by the source's own formulae, encodings by the rules' own patterns), then one Prop per statement. -/

open Sys2Proof Sys2Proof.Machine

namespace Sys2Proof.Claims

/-! ### Flags by the source's formulae -/

/-- N and Z of an 8-bit result: `N = R7`, Z iff all bits are cleared (R9). -/
def nzOf (c : CC) (r : Byte) : CC := { c with n := r.getLsbD 7, z := decide (r = 0) }

/-- N and Z of a 16-bit result: `N = RH7`, Z iff all 16 bits are cleared (R9). -/
def nzOf16 (c : CC) (r : Word) : CC := { c with n := r.getLsbD 15, z := decide (r = 0) }

/-- Flags of `R = X + M (+ carry)` by the Boolean formulae of R10: H from bit 3, V and C from bit 7. -/
def sumCC (c : CC) (x m r : Byte) : CC :=
  let x3 := x.getLsbD 3; let m3 := m.getLsbD 3; let r3 := r.getLsbD 3
  let x7 := x.getLsbD 7; let m7 := m.getLsbD 7; let r7 := r.getLsbD 7
  { nzOf c r with
    h := (x3 && m3) || (m3 && !r3) || (!r3 && x3)
    v := (x7 && m7 && !r7) || (!x7 && !m7 && r7)
    c := (x7 && m7) || (m7 && !r7) || (!r7 && x7) }

/-- Flags of `R = X - M (- borrow)` by the Boolean formulae of R11; H is not changed. -/
def differenceCC (c : CC) (x m r : Byte) : CC :=
  let x7 := x.getLsbD 7; let m7 := m.getLsbD 7; let r7 := r.getLsbD 7
  { nzOf c r with
    v := (x7 && !m7 && !r7) || (!x7 && m7 && r7)
    c := (!x7 && m7) || (m7 && r7) || (r7 && !x7) }

/-- Flags of a shift or rotate with result `r` and bit `out` shifted out: V is N xor C after the operation. -/
def shiftCC (c : CC) (r : Byte) (out : Bool) : CC :=
  { nzOf c r with v := xor (r.getLsbD 7) out, c := out }

/-- A flag as a byte 0 or 1. -/
def bitByte (b : Bool) : Byte := if b then 1 else 0

/-! ### Encodings -/

/-- The opcode is one byte, its time so many cycles: an inherent or accumulator instruction of R180 to R292. -/
def OneByte (i : Instr) (op : Byte) (cycles : Nat) : Prop := encode i = [op] ∧ cyclesOf i = cycles

/-- The three memory modes of a store or of an operand, first bytes and operand bytes (R85, R86, R87). -/
def MemoryEncodings (form : Ea → Instr) (dir ind ext : Byte) : Prop :=
  (∀ b, encode (form (.dir b)) = [dir, b]) ∧ (∀ b, encode (form (.ind b)) = [ind, b]) ∧
    (∀ w, encode (form (.ext w)) = [ext, hi8 w, lo8 w])

/-- Opcode `0x80 + 0x40*(r == B) + mode*0x10 + k` with mode 0 IMM, 1 DIR, 2 IND, 3 EXT (R120). -/
def DualEncodings (form : Acc → Src8 → Instr) (k : Byte) : Prop :=
  (∀ b, encode (form .a (.imm b)) = [0x80 + k, b]) ∧ (∀ b, encode (form .b (.imm b)) = [0xC0 + k, b]) ∧
    MemoryEncodings (fun e => form .a (.mem e)) (0x90 + k) (0xA0 + k) (0xB0 + k) ∧
    MemoryEncodings (fun e => form .b (.mem e)) (0xD0 + k) (0xE0 + k) (0xF0 + k)

/-- Opcodes 0x4k ACCA, 0x5k ACCB, 0x6k INDexed, 0x7k EXTended (R150). -/
def SingleEncodings (form : Place → Instr) (k : Byte) : Prop :=
  encode (form (.acc .a)) = [0x40 + k] ∧ encode (form (.acc .b)) = [0x50 + k] ∧
    (∀ b, encode (form (.mem (.ind b))) = [0x60 + k, b]) ∧
    (∀ w, encode (form (.mem (.ext w))) = [0x70 + k, hi8 w, lo8 w])

/-- A branch: its opcode, the displacement byte, its time (R88, R230). -/
def BranchEncoding (form : Byte → Instr) (op : Byte) (cycles : Nat) : Prop :=
  ∀ rel, encode (form rel) = [op, rel] ∧ cyclesOf (form rel) = cycles

/-! ### What a store does -/

/-- From `s` to `t` the listed bytes are stored, in this order: an address that is listed and is RAM reads as the last
byte listed for it, and every address that is not listed reads as before. (A listed address that is not RAM keeps its
byte: `OnlyListedAddressesAreWritten`.) -/
def StoresBytes (s t : State) (stores : List (Word × Byte)) : Prop :=
  ∀ a, match stores.reverse.find? (fun e => e.1 == a) with
    | some e => kindAt s.map a = .ram → t.readByte a = e.2
    | none => t.readByte a = s.readByte a

/-- Everything but memory: `t` with the memory of `s`. -/
def butMemory (s t : State) : State := { t with mem := s.mem }

/-- The seven bytes of a frame with the addresses they go to (20_memory.md R67). -/
def frameBytes (s : State) : List (Word × Byte) :=
  [(s.sp, lo8 s.pc), (s.sp - 1, hi8 s.pc), (s.sp - 2, lo8 s.ix), (s.sp - 3, hi8 s.ix), (s.sp - 4, s.accA),
   (s.sp - 5, s.accB), (s.sp - 6, s.cc.toByte)]

/-- The two bytes of a return address (R246, R261). -/
def returnBytes (s : State) : List (Word × Byte) := [(s.sp, lo8 s.pc), (s.sp - 1, hi8 s.pc)]

/-- The addresses `sp`, `sp - 1`, … `sp - (n - 1)` are RAM. -/
def StackIsRam (s : State) (n : Nat) : Prop := ∀ k < n, kindAt s.map (s.sp - BitVec.ofNat 16 k) = .ram

/-! ### The step's bookkeeping -/

/-- A step of `s` that is to run an instruction: not waiting, no request recognised (R14). -/
def AboutToFetch (s : State) : Prop := s.waiting = false ∧ s.beginStep.recognises s.irq = false

/-- The state in which the rule of the instruction `i` at PC runs: one input sample used up, PC past the bytes of
`i`, its time added, the instruction before it no longer the previous one. -/
def readyFor (s : State) (i : Instr) : State :=
  { s with
    irqLine := s.irqLine.tail
    tick := s.tick + 1
    pc := s.pc + BitVec.ofNat 16 (encode i).length
    cycles := s.cycles + cyclesOf i
    afterUnmask := false }

/-- Which condition codes an instruction may change, in the order H I N Z V C: the rows of R34. -/
def flagsTouched : Mnemonic → List Bool
  | .aba | .adc | .add => [true, false, true, true, true, true]
  | .and | .bit | .eor | .ora | .lda | .sta => [false, false, true, true, true, false]
  | .asl | .asr | .rol | .ror | .lsr => [false, false, true, true, true, true]
  | .cba | .cmp | .sba | .sbc | .sub | .neg => [false, false, true, true, true, true]
  | .clr | .com | .tst => [false, false, true, true, true, true]
  | .dec | .inc | .cpx => [false, false, true, true, true, false]
  | .dex | .inx => [false, false, false, true, false, false]
  | .lds | .ldx | .sts | .stx | .tab | .tba => [false, false, true, true, true, false]
  | .daa => [false, false, true, true, true, true]
  | .clc | .sec => [false, false, false, false, false, true]
  | .clv | .sev => [false, false, false, false, true, false]
  | .cli | .sei | .swi => [false, true, false, false, false, false]
  | .tap | .rti => [true, true, true, true, true, true]
  | .wai | .bcc | .bcs | .beq | .bge | .bgt | .bhi | .ble | .bls | .blt | .bmi | .bne | .bpl | .bra | .bsr | .bvc
  | .bvs | .des | .ins | .tsx | .txs | .jmp | .jsr | .rts | .nop | .psh | .pul | .tpa =>
    [false, false, false, false, false, false]

/-- The condition codes in the order H I N Z V C. -/
def ccList (c : CC) : List Bool := [c.h, c.i, c.n, c.z, c.v, c.c]

/-- The nine rows of the table of R185: C before, upper half-byte from and to, H before, lower half-byte from and
to, number added, C after. -/
def daaRows : List (Bool × (Nat × Nat) × Bool × (Nat × Nat) × Byte × Bool) :=
  [(false, (0, 9), false, (0, 9), 0x00, false), (false, (0, 8), false, (10, 15), 0x06, false),
   (false, (0, 9), true, (0, 3), 0x06, false), (false, (10, 15), false, (0, 9), 0x60, true),
   (false, (9, 15), false, (10, 15), 0x66, true), (false, (10, 15), true, (0, 3), 0x66, true),
   (true, (0, 2), false, (0, 9), 0x60, true), (true, (0, 2), false, (10, 15), 0x66, true),
   (true, (0, 3), true, (0, 3), 0x66, true)]

/-- C, upper half-byte, H and lower half-byte lie in a row. -/
def InDaaRow (c : Bool) (upper : Nat) (h : Bool) (lower : Nat)
    (row : Bool × (Nat × Nat) × Bool × (Nat × Nat) × Byte × Bool) : Prop :=
  c = row.1 ∧ (row.2.1.1 ≤ upper ∧ upper ≤ row.2.1.2) ∧ h = row.2.2.1 ∧
    (row.2.2.2.1.1 ≤ lower ∧ lower ≤ row.2.2.2.1.2)

/-- A byte of two decimal digits, and its value. -/
def IsBcd (b : Byte) : Prop := b.toNat / 16 ≤ 9 ∧ b.toNat % 16 ≤ 9

/-- The number two decimal digits stand for. -/
def bcdValue (b : Byte) : Nat := 10 * (b.toNat / 16) + b.toNat % 16

/-- `t` comes from `s` by one of CBA, CMP, SBA, SUB, with minuend `x` and subtrahend `m` as they were before. -/
def ComparedBy (s t : State) (x m : Byte) : Prop :=
  (∃ r src, x = s.acc r ∧ m = s.load8 src ∧ (exec (cmpForm r src) s = .next t ∨ exec (subForm r src) s = .next t)) ∨
    (x = s.accA ∧ m = s.accB ∧ (exec .cba s = .next t ∨ exec .sba s = .next t))

/-- Where a branch at `t` (PC already past it) goes if taken. -/
def taken (t : State) (rel : Byte) (cond : Prop) [Decidable cond] : State :=
  if cond then { t with pc := t.pc + sext16 rel } else t

end Sys2Proof.Claims

open Sys2Proof.Claims

/-! ## Encoding -/

/-- Decoding the bytes of any instruction, with anything after them, gives the instruction back and leaves the rest:
no bit of an encoding is dropped (R80, R81, R84 to R88, R90). Every term of `Instr` is well-formed (R93). -/
def Obligations.DecodeOfEncodeGivesTheInstruction : Prop :=
  ∀ (i : Instr) (rest : List Byte), i.wellFormed = true → decode (encode i ++ rest) = .ok i rest

/-- What decodes is the encoding of what it decodes to: each instruction has one encoding (R80, R90). -/
def Obligations.EncodeOfDecodeGivesTheBytes : Prop :=
  ∀ (bytes : List Byte) (i : Instr) (rest : List Byte), decode bytes = .ok i rest → encode i ++ rest = bytes

/-- The first byte alone determines the instruction, its addressing mode and its length, and R92 gives the length:
two byte sequences with the same first byte that decode give the same mnemonic and equally long instructions, and
the length is 1, 2 or 3 by the high and low nibble (R80, R92). -/
def Obligations.FirstByteFixesMnemonicAndLength : Prop :=
  ∀ op rest rest' i i' r r', decode (op :: rest) = .ok i r → decode (op :: rest') = .ok i' r' →
    mnemonicOf i = mnemonicOf i' ∧ (encode i).length = (encode i').length ∧ opcodeLength op = (encode i).length

/-- The 59 unassigned first bytes, and only they, are refused: by the decoder whatever follows, and by a step that
fetches one of them, with no successor state. The list is R91's; that the model refuses is the spec's choice D4
(entry 9). -/
def Obligations.UnassignedFirstBytesAreRefused : Prop :=
  (∀ op rest, decode (op :: rest) = .rejected (.illegalOpcode op) ↔
    op ∈ ([0x00, 0x02, 0x03, 0x04, 0x05, 0x12, 0x13, 0x14, 0x15, 0x18, 0x1A, 0x1C, 0x1D, 0x1E, 0x1F, 0x21, 0x38,
      0x3A, 0x3C, 0x3D, 0x41, 0x42, 0x45, 0x4B, 0x4E, 0x51, 0x52, 0x55, 0x5B, 0x5E, 0x61, 0x62, 0x65, 0x6B, 0x71,
      0x72, 0x75, 0x7B, 0x83, 0x87, 0x8F, 0x93, 0x9D, 0xA3, 0xB3, 0xC3, 0xC7, 0xCC, 0xCD, 0xCF, 0xD3, 0xDC, 0xDD,
      0xE3, 0xEC, 0xED, 0xF3, 0xFC, 0xFD] : List Byte)) ∧
  ∀ s, AboutToFetch s → s.beginStep.fetchByte s.pc ∈ unassignedOpcodes →
    step s = .refused (.illegalOpcode (s.beginStep.fetchByte s.pc))

/-- Words written out from the encoding lines: NOP 01, BSR 8D 50 and JSR BD 20 77 of the source's examples, LDX
immediate CE 12 34, INC indexed 6C FF, STS direct 9F 20. That the operand bytes of IMM, DIR and IND stand so is the
spec's choice D3, PRESUMED (entry 15). The unassigned byte 00 is refused: the spec's choice D4 (entry 9), no rule of
the source. -/
def Obligations.WrittenOutWordsDecode : Prop :=
  decode [0x01] = .ok .nop [] ∧ decode [0x8D, 0x50] = .ok (.bsr 0x50) [] ∧
  decode [0xBD, 0x20, 0x77] = .ok (.jsrExt 0x2077) [] ∧ decode [0xCE, 0x12, 0x34] = .ok (.ldxImm 0x1234) [] ∧
  decode [0x6C, 0xFF] = .ok (.incInd 0xFF) [] ∧ decode [0x9F, 0x20] = .ok (.stsDir 0x20) [] ∧
  decode [0x00] = .rejected (.illegalOpcode 0x00)

/-! ## Arithmetic and flags -/

/-- `add8` (R10): the sum mod 256, H and C the carries from bits 3 and 7, V two's complement overflow; and these
equal the source's Boolean formulae. -/
def Obligations.AdditionFlagsEqualTheFormulae : Prop :=
  ∀ (x m : Byte) (cin : Bool), let o := add8 x m cin
    o.val.toNat = (x.toNat + m.toNat + cin.toNat) % 256 ∧
    (o.h = true ↔ x.toNat % 16 + m.toNat % 16 + cin.toNat > 15) ∧
    (o.c = true ↔ x.toNat + m.toNat + cin.toNat > 255) ∧
    (o.v = true ↔ (x.toInt + m.toInt + cin.toNat < -128 ∨ 127 < x.toInt + m.toInt + cin.toNat)) ∧
    (o.v = true ↔ (x.getLsbD 7 = m.getLsbD 7 ∧ o.val.getLsbD 7 ≠ x.getLsbD 7)) ∧
    ∀ c : CC, { c with h := o.h, n := o.n, z := o.z, v := o.v, c := o.c } = sumCC c x m o.val

/-- `sub8` (R11): the difference mod 256, C the borrow (m + borrow-in > x as unsigned numbers), V two's complement
overflow; and these equal the source's Boolean formulae. -/
def Obligations.SubtractionFlagsEqualTheFormulae : Prop :=
  ∀ (x m : Byte) (bin : Bool), let o := sub8 x m bin
    (o.val.toNat : Int) = ((x.toNat : Int) - m.toNat - bin.toNat) % 256 ∧
    (o.c = true ↔ m.toNat + bin.toNat > x.toNat) ∧
    (o.v = true ↔ (x.toInt - m.toInt - bin.toNat < -128 ∨ 127 < x.toInt - m.toInt - bin.toNat)) ∧
    (o.v = true ↔ (x.getLsbD 7 ≠ m.getLsbD 7 ∧ o.val.getLsbD 7 ≠ x.getLsbD 7)) ∧
    ∀ c : CC, { c with n := o.n, z := o.z, v := o.v, c := o.c } = differenceCC c x m o.val

/-- CC as a byte: bits 7 and 6 are 1, H I N Z V C in bits 5 to 0; a byte loaded into CC gives bits 5 to 0 and its
bits 7 and 6 are ignored (R27). -/
def Obligations.ConditionCodesAsAByte : Prop :=
  (∀ c : CC, c.toByte = 0xC0 ||| (bitByte c.h <<< 5) ||| (bitByte c.i <<< 4) ||| (bitByte c.n <<< 3) |||
      (bitByte c.z <<< 2) ||| (bitByte c.v <<< 1) ||| bitByte c.c) ∧
  (∀ c : CC, CC.ofByte c.toByte = c) ∧
  ∀ b : Byte, (CC.ofByte b).toByte = 0xC0 ||| (b &&& 0x3F) ∧ CC.ofByte (b ||| 0xC0) = CC.ofByte b

/-! ## Memory -/

/-- A byte written to RAM is what that address reads as, for data and for instruction fetch; no other address
changes; a write to ROM, to a device's or to an unpopulated location changes no byte of memory
(R62, R65). One agent and an immediate fetch are the spec's choice D13, writes outside RAM D15 (entry 3). -/
def Obligations.WrittenByteReadsBack : Prop :=
  ∀ (s : State) (a b : Word) (v : Byte),
    (kindAt s.map a = .ram → (s.writeByte a v).readByte a = v ∧ (s.writeByte a v).fetchByte a = v) ∧
    (b ≠ a → (s.writeByte a v).readByte b = s.readByte b ∧ (s.writeByte a v).fetchByte b = s.fetchByte b) ∧
    (kindAt s.map a ≠ .ram → s.writeByte a v = s)

/-- After a 16-bit store at `a` a byte access to `a` sees bits 15..8 and one to `a + 1` sees bits 7..0, with `a + 1`
mod 65536 (R53, R61), and a 16-bit read gives the value back. -/
def Obligations.WordStoreIsBigEndian : Prop :=
  ∀ (s : State) (a v : Word), kindAt s.map a = .ram → kindAt s.map (a + 1) = .ram →
    (s.writeWord a v).readByte a = v.extractLsb' 8 8 ∧ (s.writeWord a v).readByte (a + 1) = v.extractLsb' 0 8 ∧
    (s.writeWord a v).readWord a = v

/-- Effective addresses: DIR in 0x0000 to 0x00FF, EXT the operand bytes, IND the unsigned sum mod 65536
(R85, R86, R87). The computations of DIR and IND are the spec's choice D3, PRESUMED (entry 15). -/
def Obligations.EffectiveAddressesByMode : Prop :=
  ∀ s : State,
    (∀ b : Byte, (s.ea (.dir b)).toNat = b.toNat) ∧ (∀ w : Word, s.ea (.ext w) = w ∧ s.farEa (.ext w) = w) ∧
    ∀ b : Byte, (s.ea (.ind b)).toNat = (s.ix.toNat + b.toNat) % 65536 ∧ s.farEa (.ind b) = s.ea (.ind b)

/-- A store into the instruction stream is seen by the very next fetch (R65): the byte that `STA` puts at the address
of the next instruction is the opcode that the next step's decoder is given. The spec's choice D13. -/
def Obligations.StoreIntoCodeIsFetchedNext : Prop :=
  ∀ (r : Acc) (e : Ea) (s : State), kindAt s.map (s.ea e) = .ram → s.pc = s.ea e →
    ∃ t, exec (staForm r e) s = .next t ∧ t.pc = s.pc ∧ t.beginStep.fetchBytes.head? = some (s.acc r)

/-! ## The step -/

/-- When the bytes at PC decode to an instruction, the step of a machine that is about to fetch is that
instruction's rule, in the state moved past its bytes: one input sample used up, PC + length, its time added
(R14, R25). The bookkeeping beside PC is the model's (entry 16). -/
def Obligations.StepRunsTheDecodedInstruction : Prop :=
  ∀ (s : State) (i : Instr) (rest : List Byte), AboutToFetch s → decode s.beginStep.fetchBytes = .ok i rest →
    i.wellFormed = true ∧ rest = [] ∧ step s = exec i (readyFor s i)

/-- An instruction whose encoding lies at PC, byte after byte at ascending addresses mod 65536, is what the step
runs (R14, R52). That addresses wrap is the spec's choice D2 (entry 20). -/
def Obligations.EncodingAtPcIsExecuted : Prop :=
  ∀ (s : State) (i : Instr), AboutToFetch s →
    (∀ k (h : k < (encode i).length), s.beginStep.fetchByte (s.pc + BitVec.ofNat 16 k) = (encode i)[k]) →
    step s = exec i (readyFor s i)

/-- A step goes on, or the byte at PC of a machine that is not waiting is one of the 59 unassigned ones and the step
is refused by that name; nothing else stops the machine (R310). The refusal is the spec's choice D4 (entry 9). -/
def Obligations.StepStopsOnlyAtUnassignedBytes : Prop :=
  ∀ s : State, (∃ t, step s = .next t) ∨
    (s.waiting = false ∧ s.beginStep.fetchByte s.pc ∈ unassignedOpcodes ∧
      step s = .refused (.illegalOpcode (s.beginStep.fetchByte s.pc)))

/-- Interrupt entry while a program runs (R304): the seven bytes of the frame with PC as it is and I = 0, then I set
and PC loaded from 0xFFF8, 0xFFF9; ACCA, ACCB, IX and the other flags unchanged, SP seven lower; no instruction is
fetched and PC is not advanced. The sequence is the spec's choice D6 (entry 7). -/
def Obligations.InterruptEntryStacksAndVectors : Prop :=
  ∀ s : State, s.waiting = false → s.irq = true → s.cc.i = false →
    (Config.irqDelayAfterUnmask = true → s.afterUnmask = false) →
    ∃ t, step s = .next t ∧ StoresBytes s.beginStep t (frameBytes s) ∧
      butMemory s t = { s with
        irqLine := s.irqLine.tail, tick := s.tick + 1, sp := s.sp - 7, cc := { s.cc with i := true }
        pc := wordOf (t.readByte 0xFFF8) (t.readByte 0xFFF9)
        afterUnmask := false, cycles := s.cycles + Config.irqEntryCycles }

/-- The step while waiting (R305): on a request with I = 0, I is set, PC loaded from 0xFFF8, 0xFFF9 and the wait ends,
nothing pushed; otherwise nothing changes but the input's sample and the time (the spec's choice D16 for I = 1,
entry 21). -/
def Obligations.WaitingStepResumesOrStays : Prop :=
  ∀ s : State, s.waiting = true →
    (s.irq = true ∧ s.cc.i = false →
      step s = .next { s with
        irqLine := s.irqLine.tail, tick := s.tick + 1, cc := { s.cc with i := true }, waiting := false
        pc := wordOf (s.beginStep.readByte 0xFFF8) (s.beginStep.readByte 0xFFF9)
        cycles := s.cycles + Config.irqResumeCycles }) ∧
    (¬(s.irq = true ∧ s.cc.i = false) →
      ∃ k, step s = .next { s with irqLine := s.irqLine.tail, tick := s.tick + 1, cycles := s.cycles + k })

/-- Recognition (R303): a machine that is not waiting is diverted exactly when a request is signalled, I = 0, and, if
the delay parameter is 1, the previous instruction was not a CLI or TAP that left I = 0. The previous instruction
counts as one exactly after CLI, and after TAP with I = 0 in its result; after RTI and every other it does not. The
spec's choices D7 and D20 (entries 6 and 24); the statement holds for both values of the delay. -/
def Obligations.RequestsAreRecognisedBetweenInstructions : Prop :=
  (∀ s : State, s.waiting = false →
    (AboutToFetch s ↔ ¬(s.irq = true ∧ s.cc.i = false ∧ ¬(Config.irqDelayAfterUnmask = true ∧ s.afterUnmask = true)))) ∧
  ∀ (i : Instr) (s t : State), exec i (readyFor s i) = .next t →
    (t.afterUnmask = true ↔ (i = .cli ∨ i = .tap) ∧ t.cc.i = false)

/-- With I = 1 a machine that is not waiting continues with its program whatever the request input says (R29, SEI). -/
def Obligations.MaskedRequestDoesNotDivert : Prop :=
  ∀ (s : State) (b b' : Bool) (later : List Bool), s.waiting = false → s.cc.i = true →
    step { s with irqLine := b :: later } = step { s with irqLine := b' :: later }

/-- WAI executed with I = 1 never resumes (D16, R305, R316): whatever requests come, after any number of steps the
machine is still waiting and nothing but the input's schedule and the model's counters has changed. The spec's choice
D16 (entry 21). -/
def Obligations.MaskedWaitNeverEnds : Prop :=
  ∀ (n : Nat) (s : State), endsInDeadWait s = true →
    ∃ k, core.run n s = .next { s with irqLine := s.irqLine.drop n, tick := s.tick + n, cycles := s.cycles + k }

/-! ## Invariants and whole-machine rules -/

/-- Every step keeps the model's invariant: memory in canonical form, a waiting machine not directly after CLI or TAP
(R305, last sentence; entry 24). -/
def Obligations.StepKeepsTheInvariant : Prop := ∀ s t : State, Inv s → step s = .next t → Inv t

/-- The model's invariant holds after reset, and after a power-on over any image in canonical form. -/
def Obligations.ResetMeetsTheInvariant : Prop :=
  Inv State.reset ∧ ∀ resetPc map image line, Memory.wf image = true → Inv (State.powerOn resetPc map image line)

/-- The reset sequence (R340), on every platform: I = 1, waiting = 0, PC the two bytes read at 0xFFFE, 0xFFFF, which are
what the platform loaded where those two addresses hold data (RAM or ROM), or RESET_PC when it is given; nothing is
pushed; the time of reset is an open parameter (R345, entry 13). The sequence is the spec's choice D9, PRESUMED
(entry 10); the other registers' values are the model's choice (entry 1) and are not stated. -/
def Obligations.ResetSetsMaskAndLoadsPc : Prop :=
  ∀ (resetPc : Option Word) (map : Option MemoryMap) (image : Memory) (line : List Bool),
    let s := State.powerOn resetPc map image line
    s.cc.i = true ∧ s.waiting = false ∧ s.mem = image ∧ s.map = map ∧ s.cycles = Config.resetCycles ∧
    (∀ p, resetPc = some p → s.pc = p) ∧
    (resetPc = none → s.pc = wordOf (readLocation map image 0 .data 0xFFFE) (readLocation map image 0 .data 0xFFFF) ∧
      ((kindAt map 0xFFFE).holdsData = true → (kindAt map 0xFFFF).holdsData = true →
        s.pc = wordOf (image.get 0xFFFE) (image.get 0xFFFF)))

/-- Every instruction, in every state, completes with a next state; it changes neither the memory map, nor the
request input, nor the model's counters. -/
def Obligations.EveryInstructionCompletes : Prop :=
  ∀ (i : Instr) (s : State), ∃ t, exec i s = .next t ∧ t.map = s.map ∧ t.irqLine = s.irqLine ∧ t.tick = s.tick ∧
    t.cycles = s.cycles

/-- The memory frame of all 197 instructions: a byte changes only at an address that is RAM and that the access list of
R55 has the instruction write. The access order is the spec's choice D14 (entry 12), and that a write outside RAM has no
effect is D15 (entry 3). -/
def Obligations.OnlyListedAddressesAreWritten : Prop :=
  ∀ (i : Instr) (s t : State) (a : Word), exec i s = .next t → a ∉ writtenAddresses i s ∨ kindAt s.map a ≠ .ram →
    t.readByte a = s.readByte a ∧ t.fetchByte a = s.fetchByte a

/-- No step changes what a ROM location holds, nor the memory map: the spec's choice D15 (entry 3). -/
def Obligations.ReadOnlyMemoryKeepsItsContents : Prop :=
  ∀ (s t : State) (a : Word), step s = .next t → t.map = s.map ∧
    (kindAt s.map a = .rom → t.mem.get a.toNat = s.mem.get a.toNat ∧ t.readByte a = s.readByte a)

/-- The flag table (R34): a condition code that the table lists as not affected by a mnemonic is unchanged by every
opcode of that mnemonic. -/
def Obligations.UnlistedFlagsAreUnchanged : Prop :=
  ∀ (i : Instr) (s t : State), exec i s = .next t →
    ∀ k < 6, (flagsTouched (mnemonicOf i)).getD k true = false → (ccList t.cc)[k]? = (ccList s.cc)[k]?

/-- Who writes the registers (R21, R22, R23, R24, R25): ACCA and ACCB, IX, SP and PC are unchanged by every instruction
whose mnemonic the rule does not list. -/
def Obligations.RegistersChangeOnlyByTheirWriters : Prop :=
  ∀ (i : Instr) (s t : State), exec i s = .next t → let m := mnemonicOf i
    ((t.accA ≠ s.accA ∨ t.accB ≠ s.accB) → m ∈ ([.aba, .sba, .tab, .tba, .tpa, .daa, .pul, .rti, .adc, .add, .and, .eor,
      .lda, .ora, .sbc, .sub, .asl, .asr, .clr, .com, .dec, .inc, .lsr, .neg, .rol, .ror] : List Mnemonic)) ∧
    (t.accA ≠ s.accA → m ≠ .tab) ∧ (t.accB ≠ s.accB → m ∉ ([.aba, .sba, .tba, .tpa, .daa] : List Mnemonic)) ∧
    (t.ix ≠ s.ix → m ∈ ([.ldx, .dex, .inx, .tsx, .rti] : List Mnemonic)) ∧
    (t.sp ≠ s.sp → m ∈ ([.psh, .pul, .bsr, .jsr, .rts, .rti, .swi, .wai, .des, .ins, .lds, .txs] : List Mnemonic)) ∧
    (t.pc ≠ s.pc → m ∈ ([.bra, .bcc, .bcs, .beq, .bge, .bgt, .bhi, .ble, .bls, .blt, .bmi, .bne, .bpl, .bvc, .bvs,
      .bsr, .jmp, .jsr, .rts, .swi, .rti] : List Mnemonic)) ∧
    (t.waiting ≠ s.waiting → m = .wai)

/-! ## Accumulator and memory -/

/-- ADC and ADD (R121, R122) in all sixteen forms: the accumulator named gets the sum mod 256, H, N, Z, V, C follow
the source's formulae, nothing else changes. -/
def Obligations.AdcAndAdd : Prop :=
  DualEncodings adcForm 0x9 ∧ DualEncodings addForm 0xB ∧
  ∀ (r : Acc) (src : Src8) (s : State), let x := s.acc r; let m := s.load8 src
    exec (adcForm r src) s =
      .next { s.setAcc r (x + m + bitByte s.cc.c) with cc := sumCC s.cc x m (x + m + bitByte s.cc.c) } ∧
    exec (addForm r src) s = .next { s.setAcc r (x + m) with cc := sumCC s.cc x m (x + m) }

/-- SBC, SUB and CMP (R129, R130, R125) in all twenty-four forms: differences mod 256, N, Z, V, C by the source's
formulae, H and I unchanged; CMP stores nothing. -/
def Obligations.SbcSubAndCmp : Prop :=
  DualEncodings sbcForm 0x2 ∧ DualEncodings subForm 0x0 ∧ DualEncodings cmpForm 0x1 ∧
  ∀ (r : Acc) (src : Src8) (s : State), let x := s.acc r; let m := s.load8 src
    exec (sbcForm r src) s =
      .next { s.setAcc r (x - m - bitByte s.cc.c) with cc := differenceCC s.cc x m (x - m - bitByte s.cc.c) } ∧
    exec (subForm r src) s = .next { s.setAcc r (x - m) with cc := differenceCC s.cc x m (x - m) } ∧
    exec (cmpForm r src) s = .next { s with cc := differenceCC s.cc x m (x - m) }

/-- AND, EOR, ORA, BIT and LDA (R123, R126, R128, R124, R127) in all forty forms: N and Z from the result, V cleared,
H, I, C unchanged; BIT stores nothing. -/
def Obligations.LogicAndLoad : Prop :=
  DualEncodings andForm 0x4 ∧ DualEncodings eorForm 0x8 ∧ DualEncodings oraForm 0xA ∧ DualEncodings bitForm 0x5 ∧
  DualEncodings ldaForm 0x6 ∧
  ∀ (r : Acc) (src : Src8) (s : State), let x := s.acc r; let m := s.load8 src
    let flags := fun res => { nzOf s.cc res with v := false }
    exec (andForm r src) s = .next { s.setAcc r (x &&& m) with cc := flags (x &&& m) } ∧
    exec (eorForm r src) s = .next { s.setAcc r (x ^^^ m) with cc := flags (x ^^^ m) } ∧
    exec (oraForm r src) s = .next { s.setAcc r (x ||| m) with cc := flags (x ||| m) } ∧
    exec (bitForm r src) s = .next { s with cc := flags (x &&& m) } ∧
    exec (ldaForm r src) s = .next { s.setAcc r m with cc := flags m }

/-- STA (R131) in its six forms: the byte at ea is the accumulator (where ea is RAM), N and Z from it, V cleared,
every other byte of memory and all else unchanged. -/
def Obligations.StaStoresTheAccumulator : Prop :=
  MemoryEncodings (staForm .a) 0x97 0xA7 0xB7 ∧ MemoryEncodings (staForm .b) 0xD7 0xE7 0xF7 ∧
  ∀ (r : Acc) (e : Ea) (s : State), ∃ t, exec (staForm r e) s = .next t ∧
    butMemory s t = { s with cc := { nzOf s.cc (s.acc r) with v := false } } ∧
    StoresBytes s t [(s.ea e, s.acc r)]

/-! ## Single operand -/

namespace Sys2Proof.Claims

/-- A single-operand instruction `i` at a place: the accumulator named gets the result and nothing else changes but
the flags; or the byte at ea gets it (where ea is RAM) and nothing else changes but the flags. -/
def PutsAtPlace (i : Instr) (s : State) (p : Place) (res : Byte) (flags : CC) : Prop :=
  match p with
  | .acc r => exec i s = .next { s.setAcc r res with cc := flags }
  | .mem f => ∃ t, exec i s = .next t ∧ butMemory s t = { s with cc := flags } ∧ StoresBytes s t [(s.farEa f, res)]

end Sys2Proof.Claims

/-- ASL, ASR, LSR, ROL, ROR (R151, R152, R157, R159, R160) in their twenty forms: the shifted byte, C the bit shifted
out, N and Z from the result, V = N xor C after the operation. -/
def Obligations.ShiftsAndRotates : Prop :=
  SingleEncodings aslForm 0x8 ∧ SingleEncodings asrForm 0x7 ∧ SingleEncodings lsrForm 0x4 ∧
  SingleEncodings rolForm 0x9 ∧ SingleEncodings rorForm 0x6 ∧
  ∀ (p : Place) (s : State), let x := s.readPlace p
    let asl := BitVec.ofNat 8 (x.toNat * 2)
    let lsr := BitVec.ofNat 8 (x.toNat / 2)
    let asr := BitVec.ofInt 8 (x.toInt / 2)
    let rol := BitVec.ofNat 8 (x.toNat * 2 + s.cc.c.toNat)
    let ror := BitVec.ofNat 8 (x.toNat / 2 + 128 * s.cc.c.toNat)
    PutsAtPlace (aslForm p) s p asl (shiftCC s.cc asl (x.getLsbD 7)) ∧
    PutsAtPlace (asrForm p) s p asr (shiftCC s.cc asr (x.getLsbD 0)) ∧
    PutsAtPlace (lsrForm p) s p lsr (shiftCC s.cc lsr (x.getLsbD 0)) ∧
    PutsAtPlace (rolForm p) s p rol (shiftCC s.cc rol (x.getLsbD 7)) ∧
    PutsAtPlace (rorForm p) s p ror (shiftCC s.cc ror (x.getLsbD 0))

/-- COM, NEG, INC, DEC (R154, R158, R156, R155) in their sixteen forms. COM: V cleared, C set. NEG: the flags of the
subtraction from zero; V iff the operand was 80, C unless it was 00. INC: V iff the operand was 7F; DEC: V iff it was
80; both leave C. -/
def Obligations.ComplementNegateCount : Prop :=
  SingleEncodings comForm 0x3 ∧ SingleEncodings negForm 0x0 ∧ SingleEncodings incForm 0xC ∧
  SingleEncodings decForm 0xA ∧
  ∀ (p : Place) (s : State), let x := s.readPlace p
    PutsAtPlace (comForm p) s p (~~~x) { nzOf s.cc (~~~x) with v := false, c := true } ∧
    PutsAtPlace (negForm p) s p (-x) { nzOf s.cc (-x) with v := decide (x = 0x80), c := decide (x ≠ 0x00) } ∧
    differenceCC s.cc 0 x (-x) = { nzOf s.cc (-x) with v := decide (x = 0x80), c := decide (x ≠ 0x00) } ∧
    PutsAtPlace (incForm p) s p (x + 1) { nzOf s.cc (x + 1) with v := decide (x = 0x7F) } ∧
    PutsAtPlace (decForm p) s p (x - 1) { nzOf s.cc (x - 1) with v := decide (x = 0x80) }

/-- CLR and TST (R153, R161) in their eight forms. CLR: zero, N 0, Z 1, V 0, C 0. TST: nothing written, N and Z from
the operand, V and C cleared. -/
def Obligations.ClearAndTest : Prop :=
  SingleEncodings clrForm 0xF ∧ SingleEncodings tstForm 0xD ∧
  ∀ (p : Place) (s : State),
    PutsAtPlace (clrForm p) s p 0 { s.cc with n := false, z := true, v := false, c := false } ∧
    exec (tstForm p) s = .next { s with cc := { nzOf s.cc (s.readPlace p) with v := false, c := false } }

/-! ## Accumulator to accumulator, DAA, PSH, PUL -/

/-- ABA, SBA, CBA (R180, R182, R181): A + B into A with H N Z V C; A - B into A, or compared only, with N Z V C; the
incoming C takes no part; B unchanged. -/
def Obligations.AbaSbaCba : Prop :=
  OneByte .aba 0x1B 2 ∧ OneByte .sba 0x10 2 ∧ OneByte .cba 0x11 2 ∧
  ∀ s : State, let a := s.accA; let b := s.accB
    exec .aba s = .next { s with accA := a + b, cc := sumCC s.cc a b (a + b) } ∧
    exec .sba s = .next { s with accA := a - b, cc := differenceCC s.cc a b (a - b) } ∧
    exec .cba s = .next { s with cc := differenceCC s.cc a b (a - b) }

/-- TAB and TBA (R183, R184): the transfer, N and Z from it, V cleared, C, H, I unchanged. -/
def Obligations.TabAndTba : Prop :=
  OneByte .tab 0x16 2 ∧ OneByte .tba 0x17 2 ∧
  ∀ s : State,
    exec .tab s = .next { s with accB := s.accA, cc := { nzOf s.cc s.accA with v := false } } ∧
    exec .tba s = .next { s with accA := s.accB, cc := { nzOf s.cc s.accB with v := false } }

/-- DAA (R185): where a row of the table matches, its number is added, C is its last column, N and Z follow the result
and V has some value; where none matches ACCA, N, Z, C and V have some values (free values, D5, entry 8); H, I and all
else are unchanged. -/
def Obligations.DaaFollowsItsTable : Prop :=
  OneByte .daa 0x19 2 ∧
  ∀ s : State, let upper := s.accA.toNat / 16; let lower := s.accA.toNat % 16
    (∀ row ∈ daaRows, InDaaRow s.cc.c upper s.cc.h lower row → let res := s.accA + row.2.2.2.2.1
      ∃ v, exec .daa s = .next { s with accA := res, cc := { nzOf s.cc res with v := v, c := row.2.2.2.2.2 } }) ∧
    ((∀ row ∈ daaRows, ¬InDaaRow s.cc.c upper s.cc.h lower row) →
      ∃ a n z v c, exec .daa s = .next { s with accA := a, cc := { s.cc with n := n, z := z, v := v, c := c } })

/-- PSH and PUL (R186, R187): a push writes the accumulator at SP (where that is RAM) and decrements SP; a pull
increments SP and loads the accumulator from there; no flag changes, a pull leaves memory as it is. -/
def Obligations.PushAndPull : Prop :=
  OneByte (pshForm .a) 0x36 4 ∧ OneByte (pshForm .b) 0x37 4 ∧ OneByte (pulForm .a) 0x32 4 ∧
  OneByte (pulForm .b) 0x33 4 ∧
  ∀ (r : Acc) (s : State),
    (∃ t, exec (pshForm r) s = .next t ∧ butMemory s t = { s with sp := s.sp - 1 } ∧
      StoresBytes s t [(s.sp, s.acc r)]) ∧
    exec (pulForm r) s = .next { s.setAcc r (s.readByte (s.sp + 1)) with sp := s.sp + 1 }

/-! ## Index register and stack pointer -/

namespace Sys2Proof.Claims

/-- The four modes of CPX, LDS, LDX: opcodes and times (R201 to R203). -/
def Load16Encodings (form : Src16 → Instr) (imm : Byte) : Prop :=
  (∀ w, encode (form (.imm w)) = [imm, hi8 w, lo8 w] ∧ cyclesOf (form (.imm w)) = 3) ∧
  MemoryEncodings (fun e => form (.mem e)) (imm + 0x10) (imm + 0x20) (imm + 0x30) ∧
  (∀ b, cyclesOf (form (.mem (.dir b))) = 4) ∧ (∀ b, cyclesOf (form (.mem (.ind b))) = 6) ∧
  ∀ w, cyclesOf (form (.mem (.ext w))) = 5

/-- The three modes of STS, STX: opcodes and times (R204, R205). -/
def Store16Encodings (form : Ea → Instr) (dir : Byte) : Prop :=
  MemoryEncodings form dir (dir + 0x10) (dir + 0x20) ∧
  (∀ b, cyclesOf (form (.dir b)) = 5) ∧ (∀ b, cyclesOf (form (.ind b)) = 7) ∧ ∀ w, cyclesOf (form (.ext w)) = 6

end Sys2Proof.Claims

/-- CPX (R201): N and V of the high bytes' subtraction without borrow from the low bytes, Z iff IX equals the operand;
C, H, I, IX and memory unchanged. That no borrow enters the high byte is the spec's choice D11 (entry 14). -/
def Obligations.CpxComparesTheIndexRegister : Prop :=
  Load16Encodings cpxForm 0x8C ∧
  ∀ (src : Src16) (s : State), let m := s.load16 src
    let high := differenceCC s.cc (hi8 s.ix) (hi8 m) (hi8 s.ix - hi8 m)
    exec (cpxForm src) s = .next { s with cc := { s.cc with n := high.n, v := high.v, z := decide (s.ix = m) } }

/-- LDS and LDX (R202, R203): the register gets the operand, N its bit 15, Z iff it is zero, V cleared; C, H, I and
memory unchanged. In memory modes the operand is the byte at ea and the one at ea + 1, ea from the old IX. -/
def Obligations.LdsAndLdx : Prop :=
  Load16Encodings ldsForm 0x8E ∧ Load16Encodings ldxForm 0xCE ∧
  ∀ (src : Src16) (s : State),
    (∀ e, s.load16 (.mem e) = wordOf (s.readByte (s.ea e)) (s.readByte (s.ea e + 1))) ∧
    exec (ldsForm src) s =
      .next { s with sp := s.load16 src, cc := { nzOf16 s.cc (s.load16 src) with v := false } } ∧
    exec (ldxForm src) s =
      .next { s with ix := s.load16 src, cc := { nzOf16 s.cc (s.load16 src) with v := false } }

/-- STS and STX (R204, R205): the high byte at ea, the low byte at ea + 1 mod 65536 (where they are RAM), N bit 15 of
the register, Z iff it is zero, V cleared; every other byte and all else unchanged. -/
def Obligations.StsAndStx : Prop :=
  Store16Encodings stsForm 0x9F ∧ Store16Encodings stxForm 0xDF ∧
  ∀ (e : Ea) (s : State),
    (∃ t, exec (stsForm e) s = .next t ∧ butMemory s t = { s with cc := { nzOf16 s.cc s.sp with v := false } } ∧
      StoresBytes s t [(s.ea e, hi8 s.sp), (s.ea e + 1, lo8 s.sp)]) ∧
    ∃ t, exec (stxForm e) s = .next t ∧ butMemory s t = { s with cc := { nzOf16 s.cc s.ix with v := false } } ∧
      StoresBytes s t [(s.ea e, hi8 s.ix), (s.ea e + 1, lo8 s.ix)]

/-- DES, INS, DEX, INX, TSX, TXS (R206 to R211): mod 65536; DEX and INX set only Z, the others no flag; no memory
access. -/
def Obligations.InherentPointerInstructions : Prop :=
  OneByte .des 0x34 4 ∧ OneByte .ins 0x31 4 ∧ OneByte .dex 0x09 4 ∧ OneByte .inx 0x08 4 ∧ OneByte .tsx 0x30 4 ∧
  OneByte .txs 0x35 4 ∧
  ∀ s : State,
    exec .des s = .next { s with sp := s.sp - 1 } ∧ exec .ins s = .next { s with sp := s.sp + 1 } ∧
    exec .dex s = .next { s with ix := s.ix - 1, cc := { s.cc with z := decide (s.ix = 1) } } ∧
    exec .inx s = .next { s with ix := s.ix + 1, cc := { s.cc with z := decide (s.ix = 0xFFFF) } } ∧
    exec .tsx s = .next { s with ix := s.sp + 1 } ∧ exec .txs s = .next { s with sp := s.ix - 1 }

/-! ## Branches, jumps, subroutines -/

/-- BRA and the branches on one condition code (R231 to R234, R241 to R245): taken exactly on the condition of the
branch's page, to PC (already past the branch) plus the sign-extended displacement mod 65536; else on to the next
instruction; nothing but PC changes. -/
def Obligations.BranchesOnOneFlag : Prop :=
  BranchEncoding .bra 0x20 4 ∧ BranchEncoding .bcc 0x24 4 ∧ BranchEncoding .bcs 0x25 4 ∧ BranchEncoding .beq 0x27 4 ∧
  BranchEncoding .bmi 0x2B 4 ∧ BranchEncoding .bne 0x26 4 ∧ BranchEncoding .bpl 0x2A 4 ∧ BranchEncoding .bvc 0x28 4 ∧
  BranchEncoding .bvs 0x29 4 ∧
  ∀ (rel : Byte) (s : State),
    let n := s.cc.n; let z := s.cc.z; let v := s.cc.v; let c := s.cc.c
    exec (.bra rel) s = .next { s with pc := s.pc + sext16 rel } ∧
    exec (.bcc rel) s = .next (taken s rel (c = false)) ∧ exec (.bcs rel) s = .next (taken s rel (c = true)) ∧
    exec (.beq rel) s = .next (taken s rel (z = true)) ∧ exec (.bne rel) s = .next (taken s rel (z = false)) ∧
    exec (.bmi rel) s = .next (taken s rel (n = true)) ∧ exec (.bpl rel) s = .next (taken s rel (n = false)) ∧
    exec (.bvc rel) s = .next (taken s rel (v = false)) ∧ exec (.bvs rel) s = .next (taken s rel (v = true))

/-- The branches on two or three condition codes (R235 to R240): BGE, BLT, BGT, BLE on N xor V, BHI and BLS on C or Z;
taken, they go to PC (already past the branch) plus the sign-extended displacement mod 65536; else on to the next
instruction; nothing but PC changes. -/
def Obligations.BranchesOnSeveralFlags : Prop :=
  BranchEncoding .bge 0x2C 4 ∧ BranchEncoding .bgt 0x2E 4 ∧ BranchEncoding .bhi 0x22 4 ∧ BranchEncoding .ble 0x2F 4 ∧
  BranchEncoding .bls 0x23 4 ∧ BranchEncoding .blt 0x2D 4 ∧
  ∀ (rel : Byte) (s : State),
    let n := s.cc.n; let z := s.cc.z; let v := s.cc.v; let c := s.cc.c
    exec (.bge rel) s = .next (taken s rel (n = v)) ∧ exec (.blt rel) s = .next (taken s rel (n ≠ v)) ∧
    exec (.bgt rel) s = .next (taken s rel (z = false ∧ n = v)) ∧
    exec (.ble rel) s = .next (taken s rel (z = true ∨ n ≠ v)) ∧
    exec (.bhi rel) s = .next (taken s rel (c = false ∧ z = false)) ∧
    exec (.bls rel) s = .next (taken s rel (c = true ∨ z = true))

/-- The relations of R247: right after CBA, CMP, SBA or SUB each of the ten conditional branches is taken iff the
minuend and the subtrahend, as they were before, stand in its relation, unsigned or two's complement. -/
def Obligations.BranchesDecideTheComparedRelation : Prop :=
  ∀ (s t : State) (x m rel : Byte), ComparedBy s t x m →
    exec (.beq rel) t = .next (taken t rel (x = m)) ∧ exec (.bne rel) t = .next (taken t rel (x ≠ m)) ∧
    exec (.bhi rel) t = .next (taken t rel (m.toNat < x.toNat)) ∧
    exec (.bls rel) t = .next (taken t rel (x.toNat ≤ m.toNat)) ∧
    exec (.bcc rel) t = .next (taken t rel (m.toNat ≤ x.toNat)) ∧
    exec (.bcs rel) t = .next (taken t rel (x.toNat < m.toNat)) ∧
    exec (.bge rel) t = .next (taken t rel (m.toInt ≤ x.toInt)) ∧
    exec (.bgt rel) t = .next (taken t rel (m.toInt < x.toInt)) ∧
    exec (.ble rel) t = .next (taken t rel (x.toInt ≤ m.toInt)) ∧
    exec (.blt rel) t = .next (taken t rel (x.toInt < m.toInt))

/-- BSR and JSR (R246, R261): the address of the next instruction pushed, low byte at SP, high byte at SP - 1 (where
they are RAM), SP two lower, PC the target; no flag or other register changes, nor any other byte. -/
def Obligations.BsrAndJsr : Prop :=
  BranchEncoding .bsr 0x8D 8 ∧ (∀ w, encode (jsrForm (.ext w)) = [0xBD, hi8 w, lo8 w] ∧ cyclesOf (jsrForm (.ext w)) = 9) ∧
  (∀ b, encode (jsrForm (.ind b)) = [0xAD, b] ∧ cyclesOf (jsrForm (.ind b)) = 8) ∧
  ∀ s : State,
    (∀ rel, ∃ t, exec (.bsr rel) s = .next t ∧
      butMemory s t = { s with sp := s.sp - 2, pc := s.pc + sext16 rel } ∧ StoresBytes s t (returnBytes s)) ∧
    ∀ f, ∃ t, exec (jsrForm f) s = .next t ∧ butMemory s t = { s with sp := s.sp - 2, pc := s.farEa f } ∧
      StoresBytes s t (returnBytes s)

/-- JMP and RTS (R260, R262): JMP goes to the numerical address itself and touches no memory; RTS pulls PCH from
SP + 1 and PCL from SP + 2; nothing else changes. That the numerical address of an INDexed JMP is IX plus the unsigned
offset is the spec's choice D3, PRESUMED from general knowledge (entry 15); no rule of the source states it. -/
def Obligations.JmpAndRts : Prop :=
  (∀ w, encode (jmpForm (.ext w)) = [0x7E, hi8 w, lo8 w] ∧ cyclesOf (jmpForm (.ext w)) = 3) ∧
  (∀ b, encode (jmpForm (.ind b)) = [0x6E, b] ∧ cyclesOf (jmpForm (.ind b)) = 4) ∧ OneByte .rts 0x39 5 ∧
  ∀ s : State,
    (∀ w, exec (jmpForm (.ext w)) s = .next { s with pc := w }) ∧
    (∀ b : Byte, exec (jmpForm (.ind b)) s = .next { s with pc := s.ix + b.setWidth 16 }) ∧
    exec .rts s =
      .next { s with pc := wordOf (s.readByte (s.sp + 1)) (s.readByte (s.sp + 2)), sp := s.sp + 2 }

/-- A call and its return (R246, R261, R262, R263): in every state that has SP as BSR or JSR left it and the two bytes
they stored unchanged, whatever else the subroutine did, RTS continues at the instruction after the call with SP as it
was before it. The two stack bytes must be RAM. -/
def Obligations.ReturnFollowsTheCall : Prop :=
  ∀ (i : Instr) (s t w : State), StackIsRam s 2 → mnemonicOf i = .bsr ∨ mnemonicOf i = .jsr → exec i s = .next t →
    w.sp = t.sp → (∀ k ∈ ([1, 2] : List Word), w.readByte (w.sp + k) = t.readByte (w.sp + k)) →
    exec .rts w = .next { w with pc := s.pc, sp := s.sp }

/-! ## Condition codes and NOP -/

/-- CLC, SEC, CLV, SEV, CLI, SEI, NOP (R270 to R275, R278): the one bit named, nothing else; NOP nothing at all. CLI
also sets `afterUnmask`, the model's own field, DEDUCED (entries 6 and 24), by which the recognition rule remembers
that the previous instruction was a CLI; R271 names no such state. -/
def Obligations.SingleBitInstructionsAndNop : Prop :=
  OneByte .clc 0x0C 2 ∧ OneByte .sec 0x0D 2 ∧ OneByte .clv 0x0A 2 ∧ OneByte .sev 0x0B 2 ∧ OneByte .cli 0x0E 2 ∧
  OneByte .sei 0x0F 2 ∧ OneByte .nop 0x01 2 ∧
  ∀ s : State,
    exec .clc s = .next { s with cc := { s.cc with c := false } } ∧
    exec .sec s = .next { s with cc := { s.cc with c := true } } ∧
    exec .clv s = .next { s with cc := { s.cc with v := false } } ∧
    exec .sev s = .next { s with cc := { s.cc with v := true } } ∧
    exec .cli s = .next { s with cc := { s.cc with i := false }, afterUnmask := true } ∧
    exec .sei s = .next { s with cc := { s.cc with i := true } } ∧ exec .nop s = .next s

/-- TAP and TPA (R276, R277): CC from bits 5 to 0 of ACCA, ACCA unchanged; ACCA from CC with bits 7 and 6 set, CC
unchanged. TAP also sets `afterUnmask`, the model's own field, DEDUCED (entries 6 and 24), by which the recognition rule
remembers that a TAP left I = 0; R276 names no such state. -/
def Obligations.TapAndTpa : Prop :=
  OneByte .tap 0x06 2 ∧ OneByte .tpa 0x07 2 ∧
  ∀ s : State, let a := s.accA; let c := s.cc
    exec .tap s = .next { s with
      cc := { h := a.getLsbD 5, i := a.getLsbD 4, n := a.getLsbD 3, z := a.getLsbD 2, v := a.getLsbD 1, c := a.getLsbD 0 }
      afterUnmask := !a.getLsbD 4 } ∧
    exec .tpa s = .next { s with
      accA := 0xC0 ||| (bitByte c.h <<< 5) ||| (bitByte c.i <<< 4) ||| (bitByte c.n <<< 3) ||| (bitByte c.z <<< 2) |||
        (bitByte c.v <<< 1) ||| bitByte c.c }

/-! ## Interrupt instructions -/

/-- SWI (R290): the seven bytes of the frame with the return address and the old I, then I set and PC loaded from
0xFFFA, 0xFFFB (n = 0xFFFF is the spec's choice D1, entry 28), read after the pushes; SP seven lower, all else
unchanged, whatever I was. -/
def Obligations.SwiStacksAndVectors : Prop :=
  OneByte .swi 0x3F 12 ∧
  ∀ s : State, ∃ t, exec .swi s = .next t ∧ StoresBytes s t (frameBytes s) ∧
    butMemory s t = { s with
      sp := s.sp - 7, cc := { s.cc with i := true }, pc := wordOf (t.readByte 0xFFFA) (t.readByte 0xFFFB) }

/-- WAI (R291): the same frame, then the machine waits; no flag changes, PC holds the return address. -/
def Obligations.WaiStacksAndWaits : Prop :=
  OneByte .wai 0x3E 9 ∧
  ∀ s : State, ∃ t, exec .wai s = .next t ∧ StoresBytes s t (frameBytes s) ∧
    butMemory s t = { s with sp := s.sp - 7, waiting := true }

/-- RTI (R292): CC, ACCB, ACCA, IXH, IXL, PCH, PCL from SP + 1 to SP + 7, bits 7 and 6 of the CC byte ignored, SP seven
higher, memory unchanged. -/
def Obligations.RtiRestoresTheFrame : Prop :=
  OneByte .rti 0x3B 10 ∧
  ∀ s : State, let b := s.readByte (s.sp + 1)
    exec .rti s = .next { s with
      cc := { h := b.getLsbD 5, i := b.getLsbD 4, n := b.getLsbD 3, z := b.getLsbD 2, v := b.getLsbD 1, c := b.getLsbD 0 }
      accB := s.readByte (s.sp + 2)
      accA := s.readByte (s.sp + 3)
      ix := wordOf (s.readByte (s.sp + 4)) (s.readByte (s.sp + 5))
      pc := wordOf (s.readByte (s.sp + 6)) (s.readByte (s.sp + 7))
      sp := s.sp + 7 }

/-- An interrupt and its return (R309, R301): after SWI, WAI or the entry taken at a step, in every state that has SP
as it was left and the seven frame bytes unchanged, whatever else the handler did, RTI restores ACCA, ACCB, IX, CC with
its I bit, SP, and PC at the address that was stacked. The seven stack bytes must be RAM. The entry at a step is the
spec's choice D6 (entry 7). -/
def Obligations.ReturnFromInterruptUndoesTheEntry : Prop :=
  ∀ s t w : State, StackIsRam s 7 →
    exec .swi s = .next t ∨ exec .wai s = .next t ∨ (s.waiting = false ∧ s.beginStep.recognises s.irq = true ∧ step s = .next t) →
    w.sp = t.sp → (∀ k ∈ ([1, 2, 3, 4, 5, 6, 7] : List Word), w.readByte (w.sp + k) = t.readByte (w.sp + k)) →
    exec .rti w = .next { w with accA := s.accA, accB := s.accB, ix := s.ix, cc := s.cc, sp := s.sp, pc := s.pc }

/-! ## Decimal arithmetic, timing, assembler -/

/-- What DAA is for (R185): after ABA, ADD or ADC on two decimal operands, with the initial carry either set or clear,
DAA leaves in ACCA the two low decimal digits of their sum (with the carry for ADC) and in C its hundred. -/
def Obligations.DaaGivesTheDecimalSum : Prop :=
  ∀ (i : Instr) (s t : State) (m : Byte),
    ((i = .aba ∧ m = s.accB) ∨ ∃ src, (i = addForm .a src ∨ i = adcForm .a src) ∧ m = s.load8 src) →
    IsBcd s.accA → IsBcd m → exec i s = .next t →
    let sum := bcdValue s.accA + bcdValue m + (if mnemonicOf i = .adc then s.cc.c.toNat else 0)
    ∃ u, exec .daa t = .next u ∧ IsBcd u.accA ∧ 100 * u.cc.c.toNat + bcdValue u.accA = sum

/-- Execution time and length of every instruction, the table of R344: cycles and bytes by mnemonic and mode. -/
def Obligations.ExecutionTimesAndLengths : Prop :=
  let takes := fun (i : Instr) (cycles bytes : Nat) => cyclesOf i = cycles ∧ (encode i).length = bytes
  (∀ f ∈ [adcForm, addForm, andForm, bitForm, cmpForm, eorForm, ldaForm, oraForm, sbcForm, subForm], ∀ r b w,
    takes (f r (.imm b)) 2 2 ∧ takes (f r (.mem (.dir b))) 3 2 ∧ takes (f r (.mem (.ext w))) 4 3 ∧
    takes (f r (.mem (.ind b))) 5 2) ∧
  (∀ r b w, takes (staForm r (.dir b)) 4 2 ∧ takes (staForm r (.ext w)) 5 3 ∧ takes (staForm r (.ind b)) 6 2) ∧
  (∀ f ∈ [aslForm, asrForm, clrForm, comForm, decForm, incForm, lsrForm, negForm, rolForm, rorForm, tstForm], ∀ r b w,
    takes (f (.acc r)) 2 1 ∧ takes (f (.mem (.ext w))) 6 3 ∧ takes (f (.mem (.ind b))) 7 2) ∧
  (∀ r, takes (pshForm r) 4 1 ∧ takes (pulForm r) 4 1) ∧
  (∀ f ∈ [cpxForm, ldsForm, ldxForm], ∀ b w,
    takes (f (.imm w)) 3 3 ∧ takes (f (.mem (.dir b))) 4 2 ∧ takes (f (.mem (.ext w))) 5 3 ∧
    takes (f (.mem (.ind b))) 6 2) ∧
  (∀ f ∈ [stsForm, stxForm], ∀ b w, takes (f (.dir b)) 5 2 ∧ takes (f (.ext w)) 6 3 ∧ takes (f (.ind b)) 7 2) ∧
  (∀ f ∈ [Instr.bra, .bcc, .bcs, .beq, .bge, .bgt, .bhi, .ble, .bls, .blt, .bmi, .bne, .bpl, .bvc, .bvs], ∀ rel,
    takes (f rel) 4 2) ∧
  (∀ rel, takes (.bsr rel) 8 2) ∧
  (∀ b w, takes (jmpForm (.ext w)) 3 3 ∧ takes (jmpForm (.ind b)) 4 2 ∧ takes (jsrForm (.ext w)) 9 3 ∧
    takes (jsrForm (.ind b)) 8 2) ∧
  (∀ i ∈ [Instr.aba, .cba, .sba, .tab, .tba, .daa, .clc, .cli, .clv, .sec, .sei, .sev, .tap, .tpa, .nop],
    takes i 2 1) ∧
  (∀ i ∈ [Instr.des, .dex, .ins, .inx, .tsx, .txs], takes i 4 1) ∧
  takes .rts 5 1 ∧ takes .wai 9 1 ∧ takes .rti 10 1 ∧ takes .swi 12 1

/-- The relative address that the assembler obtains (R99) is one byte that takes the branch to the absolute address
written in the source line, and there is one exactly for -128 ≤ dest - (pc0 + 2) ≤ 127. R99 says that what the
assembler does outside that range is not in the source: that it then gives no instruction is the model's own choice,
DESIGN CHOICE (entry 19). -/
def Obligations.AssembledBranchReachesItsDestination : Prop :=
  ∀ (pc0 : Word) (dest : Nat) (m : Mnemonic), dest < 65536 → (∃ f, operatorOf m = .branch f) →
    ((∃ i, assemble pc0 m none (.addr dest) = some i) ↔
      (-128 ≤ (dest : Int) - (pc0.toNat + 2) ∧ (dest : Int) - (pc0.toNat + 2) ≤ 127)) ∧
    ∀ i, assemble pc0 m none (.addr dest) = some i →
      ∃ rel, encode i = [(encode i).headD 0, rel] ∧ (pc0 + 2 + sext16 rel).toNat = dest ∧ mnemonicOf i = m

namespace Sys2Proof.Claims

/-- What the assembler gave for the address `n` is `form` with a direct or an extended operand whose effective address
is `n` in every state, two bytes long below 256 and three from there on. -/
def DirectOrExtended (form : Ea → Instr) (n : Nat) (given : Option Instr) : Prop :=
  ∃ e, given = some (form e) ∧ (∀ s : State, (s.ea e).toNat = n) ∧
    (encode (form e)).length = if n < 256 then 2 else 3

end Sys2Proof.Claims

/-- DIRect or EXTended (R100, R95, R97): for every mnemonic of Tables A-1 (ADC ADD AND BIT CMP EOR LDA ORA SBC SUB), A-2
(STA), A-5 (CPX LDS LDX) and A-6 (STS STX), whichever of the two encodings the assembler chooses for an address, the
instruction it gives has that address as its effective address, in one byte fewer when the address is below 256. Which
encoding it chooses is the spec's choice D19 (entry 19); that a direct operand lies at the address its byte spells is
the spec's choice D3, PRESUMED (entry 15). -/
def Obligations.DirectAndExtendedReachTheSameAddress : Prop :=
  ∀ (pc0 : Word) (m : Mnemonic) (n : Nat), n < 65536 →
    (∀ f, operatorOf m = .dual f → ∀ r, DirectOrExtended (fun e => f r (.mem e)) n (assemble pc0 m (some r) (.addr n))) ∧
    (∀ f, operatorOf m = .storeAcc f → ∀ r, DirectOrExtended (f r) n (assemble pc0 m (some r) (.addr n))) ∧
    (∀ f, operatorOf m = .load16 f → DirectOrExtended (fun e => f (.mem e)) n (assemble pc0 m none (.addr n))) ∧
    (∀ f, operatorOf m = .store16 f → DirectOrExtended f n (assemble pc0 m none (.addr n))) ∧
    (m ∈ ([.adc, .add, .and, .bit, .cmp, .eor, .lda, .ora, .sbc, .sub] : List Mnemonic) ↔ ∃ f, operatorOf m = .dual f) ∧
    (m = .sta ↔ ∃ f, operatorOf m = .storeAcc f) ∧
    (m ∈ ([.cpx, .lds, .ldx] : List Mnemonic) ↔ ∃ f, operatorOf m = .load16 f) ∧
    (m ∈ ([.sts, .stx] : List Mnemonic) ↔ ∃ f, operatorOf m = .store16 f)

/-- No instruction can read elapsed time (R312, R345): a step of a machine with more time behind it does the same, to
the same next state but for that time, which it carries on; and it is refused where it was refused. That the time is
counted, in `cycles`, is the model's choice (entry 13). -/
def Obligations.NoStepReadsTheTime : Prop :=
  ∀ (s : State) (k : Nat),
    (∀ t, step s = .next t → step { s with cycles := s.cycles + k } = .next { t with cycles := t.cycles + k }) ∧
    ∀ r, step s = .refused r → step { s with cycles := s.cycles + k } = .refused r
end

