-- ==== Sys2Proof/Laws/Bits.lean ====
section
/-! SUPPORT. Halves and joins of 16-bit quantities. -/

namespace Sys2Proof.Machine

/-- A 16-bit quantity by its bytes: the more significant one counts 256 (20_memory.md R51). -/
theorem toNat_wordOf (h l : Byte) : (wordOf h l).toNat = 256 * h.toNat + l.toNat := by
  unfold wordOf; rw [BitVec.toNat_append, ← Nat.shiftLeft_add_eq_or_of_lt l.isLt, Nat.shiftLeft_eq]; omega

@[simp] theorem hi8_wordOf (h l : Byte) : hi8 (wordOf h l) = h := by
  have := toNat_wordOf h l
  apply BitVec.eq_of_toNat_eq; unfold hi8; simp [this, Nat.shiftRight_eq_div_pow]; omega

@[simp] theorem lo8_wordOf (h l : Byte) : lo8 (wordOf h l) = l := by
  have := toNat_wordOf h l
  apply BitVec.eq_of_toNat_eq; unfold lo8; simp [this]; omega

@[simp] theorem wordOf_hi8_lo8 (w : Word) : wordOf (hi8 w) (lo8 w) = w := by
  apply BitVec.eq_of_toNat_eq; rw [toNat_wordOf]; unfold hi8 lo8; simp [Nat.shiftRight_eq_div_pow]; omega

@[simp] theorem toNat_zext16 (b : Byte) : (zext16 b).toNat = b.toNat := by
  unfold zext16; simp; omega

end Sys2Proof.Machine
end

