-- ==== Sys2Proof/Laws/Decode.lean ====
section
/-! SUPPORT. What the opcode map says of every first byte, and what the decoder can answer. -/

namespace Sys2Proof

open Machine (hi8 lo8 wordOf)

/-- A cell of the map agrees with the encoder and with the list of unassigned first bytes. -/
def Layout.encodesFrom (op : Byte) : Option Layout → Prop
  | none => op ∈ unassignedOpcodes
  | some (.bare i) => encode i = [op] ∧ op ∉ unassignedOpcodes
  | some (.byte f) => (∀ b, encode (f b) = [op, b]) ∧ op ∉ unassignedOpcodes
  | some (.word f) => (∀ w, encode (f w) = [op, hi8 w, lo8 w]) ∧ op ∉ unassignedOpcodes

/-- Every cell of the map does (30_encoding.md R90, R91). -/
theorem layoutOf_encodesFrom (op : Byte) : Layout.encodesFrom op (layoutOf op) := by
  obtain ⟨n, hn, rfl⟩ : ∃ n < 256, op = BitVec.ofNat 8 n := ⟨op.toNat, op.isLt, by simp⟩
  interval_cases n <;>
    first
      | exact ⟨rfl, by decide⟩
      | exact ⟨fun _ => rfl, by decide⟩
      | (show _ ∈ unassignedOpcodes; decide)

/-- All that the decoder can answer to a first byte and what follows it. -/
theorem decode_cons_cases (op : Byte) (rest : List Byte) :
    (op ∈ unassignedOpcodes ∧ operandCount op = 0 ∧ decode (op :: rest) = .rejected (.illegalOpcode op)) ∨
    (∃ i, op ∉ unassignedOpcodes ∧ operandCount op = 0 ∧ encode i = [op] ∧ decode (op :: rest) = .ok i rest) ∨
    (∃ f : Byte → Instr, op ∉ unassignedOpcodes ∧ operandCount op = 1 ∧ (∀ b, encode (f b) = [op, b]) ∧
      ((rest = [] ∧ decode (op :: rest) = .rejected (.truncated op)) ∨
        ∃ b r, rest = b :: r ∧ decode (op :: rest) = .ok (f b) r)) ∨
    ∃ f : Word → Instr, op ∉ unassignedOpcodes ∧ operandCount op = 2 ∧ (∀ w, encode (f w) = [op, hi8 w, lo8 w]) ∧
      ((rest.length < 2 ∧ decode (op :: rest) = .rejected (.truncated op)) ∨
        ∃ h l r, rest = h :: l :: r ∧ decode (op :: rest) = .ok (f (wordOf h l)) r) := by
  have hl := layoutOf_encodesFrom op
  rcases h : layoutOf op with _ | (i | f | f) <;> rw [h] at hl
  · exact .inl ⟨hl, by simp [operandCount, h], by simp [decode, h]⟩
  · exact .inr (.inl ⟨i, hl.2, by simp [operandCount, h], hl.1, by simp [decode, h]⟩)
  · refine .inr (.inr (.inl ⟨f, hl.2, by simp [operandCount, h], hl.1, ?_⟩))
    rcases rest with _ | ⟨b, r⟩
    · exact .inl ⟨rfl, by simp [decode, h]⟩
    · exact .inr ⟨b, r, rfl, by simp [decode, h]⟩
  · refine .inr (.inr (.inr ⟨f, hl.2, by simp [operandCount, h], hl.1, ?_⟩))
    rcases rest with _ | ⟨b, _ | ⟨b', r⟩⟩
    · exact .inl ⟨by simp, by simp [decode, h]⟩
    · exact .inl ⟨by simp, by simp [decode, h]⟩
    · exact .inr ⟨b, b', r, rfl, by simp [decode, h]⟩

end Sys2Proof
end

