-- ==== Sys2Proof/Laws/Memory.lean ====
section
/-! SUPPORT. The laws of memory: read after write, other addresses, the canonical form; and the two byte accesses
over a memory map. -/

namespace Sys2Proof.Machine

theorem Memory.get_without_same (m : Memory) (a : Nat) : (m.without a).get a = Config.unlistedByte := by
  induction m with
  | nil => rfl
  | cons cell rest ih =>
    obtain ⟨k, u⟩ := cell
    by_cases h : k = a
    · simpa [Memory.without, h] using ih
    · simpa [Memory.without, Memory.get, h] using ih

theorem Memory.get_without_other (m : Memory) {a b : Nat} (h : b ≠ a) : (m.without a).get b = m.get b := by
  induction m with
  | nil => rfl
  | cons cell rest ih =>
    obtain ⟨k, u⟩ := cell
    by_cases hk : k = a
    · have : k ≠ b := by omega
      simpa [Memory.without, Memory.get, hk, this, show a ≠ b from fun e => h e.symm] using ih
    · by_cases hb : k = b
      · simp [Memory.without, Memory.get, hb, h]
      · simpa [Memory.without, Memory.get, hk, hb] using ih

theorem Memory.get_insert_other (m : Memory) {a b : Nat} (v : Byte) (h : b ≠ a) : (m.insert a v).get b = m.get b := by
  induction m with
  | nil => simp [Memory.insert, Memory.get, h.symm]
  | cons cell rest ih =>
    obtain ⟨k, u⟩ := cell
    by_cases hk : a < k
    · simp [Memory.insert, hk, Memory.get, h.symm]
    · simp only [Memory.insert, if_neg hk, Memory.get, ih]

/-- Inserting at an address that lists no cell. -/
theorem Memory.get_insert_same (m : Memory) (a : Nat) (v : Byte) (h : ∀ cell ∈ m, cell.1 ≠ a) :
    (m.insert a v).get a = v := by
  induction m with
  | nil => simp [Memory.insert, Memory.get]
  | cons cell rest ih =>
    obtain ⟨k, u⟩ := cell
    have hk : k ≠ a := h (k, u) (by simp)
    by_cases hl : a < k
    · simp [Memory.insert, hl, Memory.get]
    · simpa [Memory.insert, hl, Memory.get, hk] using ih fun c hc => h c (List.mem_cons_of_mem _ hc)

theorem Memory.without_ne (m : Memory) (a : Nat) : ∀ cell ∈ m.without a, cell.1 ≠ a := by
  simp [Memory.without]

@[simp] theorem Memory.get_set_same (m : Memory) (a : Nat) (v : Byte) : (m.set a v).get a = v := by
  unfold Memory.set
  split
  · next h => rw [Memory.get_without_same, h]
  · exact Memory.get_insert_same _ _ _ (m.without_ne a)

theorem Memory.get_set_other (m : Memory) {a b : Nat} (v : Byte) (h : b ≠ a) : (m.set a v).get b = m.get b := by
  unfold Memory.set
  split
  · exact Memory.get_without_other m h
  · rw [Memory.get_insert_other _ _ h, Memory.get_without_other m h]

/-! ### The canonical form -/

theorem Memory.wfFrom_mono {m : Memory} {low low' : Nat} (h : low' ≤ low) (hm : Memory.wfFrom low m = true) :
    Memory.wfFrom low' m = true := by
  cases m with
  | nil => rfl
  | cons cell rest => simp only [Memory.wfFrom, Bool.and_eq_true, decide_eq_true_eq] at hm ⊢; exact ⟨⟨⟨by omega, hm.1.1.2⟩, hm.1.2⟩, hm.2⟩

theorem Memory.wfFrom_without {m : Memory} {low : Nat} (a : Nat) (hm : Memory.wfFrom low m = true) :
    Memory.wfFrom low (m.without a) = true := by
  induction m generalizing low with
  | nil => rfl
  | cons cell rest ih =>
    obtain ⟨k, u⟩ := cell
    simp only [Memory.wfFrom, Bool.and_eq_true, decide_eq_true_eq] at hm
    by_cases hk : k = a
    · simpa [Memory.without, hk] using Memory.wfFrom_mono (by omega) (ih hm.2)
    · simpa [Memory.without, hk, Memory.wfFrom, hm.1.1.1, hm.1.1.2, hm.1.2] using ih hm.2

theorem Memory.wfFrom_insert {m : Memory} {low a : Nat} {v : Byte} (ha : low ≤ a) (hlt : a < 65536)
    (hv : v ≠ Config.unlistedByte) (hne : ∀ cell ∈ m, cell.1 ≠ a) (hm : Memory.wfFrom low m = true) :
    Memory.wfFrom low (m.insert a v) = true := by
  induction m generalizing low with
  | nil => simp [Memory.insert, Memory.wfFrom, ha, hlt, hv]
  | cons cell rest ih =>
    obtain ⟨k, u⟩ := cell
    simp only [Memory.wfFrom, Bool.and_eq_true, decide_eq_true_eq] at hm
    have hk : k ≠ a := hne (k, u) (by simp)
    by_cases hl : a < k
    · simp only [Memory.insert, hl, if_true, Memory.wfFrom, Bool.and_eq_true, decide_eq_true_eq]
      exact ⟨⟨⟨ha, hlt⟩, hv⟩, ⟨⟨by omega, hm.1.1.2⟩, hm.1.2⟩, hm.2⟩
    · simp only [Memory.insert, hl, if_false, Memory.wfFrom, Bool.and_eq_true, decide_eq_true_eq]
      exact ⟨hm.1, ih (by omega) (fun c hc => hne c (List.mem_cons_of_mem _ hc)) hm.2⟩

/-- A store at an address of the space keeps the canonical form. -/
theorem Memory.wf_set {m : Memory} {a : Nat} (v : Byte) (ha : a < 65536) (hm : m.wf = true) :
    (m.set a v).wf = true := by
  unfold Memory.set
  split
  · exact Memory.wfFrom_without a hm
  · next hv => exact Memory.wfFrom_insert (Nat.zero_le _) ha hv (m.without_ne a) (Memory.wfFrom_without a hm)

/-- Placing a program keeps the canonical form. -/
theorem Memory.wf_place {m : Memory} (a : Word) (bytes : List Byte) (hm : m.wf = true) :
    (m.place a bytes).wf = true := by
  induction bytes generalizing m a with
  | nil => exact hm
  | cons b rest ih => exact ih (a + 1) (Memory.wf_set b a.isLt hm)

/-! ### The two byte accesses -/

/-- All that a byte write can do: in RAM it stores, elsewhere it leaves memory alone. -/
theorem storeLocation_eq (map : Option MemoryMap) (mem : Memory) (a : Word) (v : Byte) :
    (kindAt map a = .ram ∧ storeLocation map mem a v = mem.set a.toNat v) ∨
      (kindAt map a ≠ .ram ∧ storeLocation map mem a v = mem) := by
  by_cases h : kindAt map a = .ram <;> simp [storeLocation, h]

theorem storeLocation_wf {map : Option MemoryMap} {mem : Memory} (a : Word) (v : Byte) (h : mem.wf = true) :
    (storeLocation map mem a v).wf = true := by
  rcases storeLocation_eq map mem a v with ⟨_, e⟩ | ⟨_, e⟩ <;> rw [e]
  · exact Memory.wf_set v a.isLt h
  · exact h

/-- A byte written to RAM reads back. -/
theorem readLocation_store_same {map : Option MemoryMap} (mem : Memory) (tick : Nat) (k : AccessKind) {a : Word}
    (v : Byte) (h : kindAt map a = .ram) : readLocation map (storeLocation map mem a v) tick k a = v := by
  simp [readLocation, storeLocation, h, LocationKind.holdsData]

/-- A write leaves every other address alone. -/
theorem readLocation_store_other (map : Option MemoryMap) (mem : Memory) (tick : Nat) (k : AccessKind) {a b : Word}
    (v : Byte) (h : b ≠ a) : readLocation map (storeLocation map mem a v) tick k b = readLocation map mem tick k b := by
  have hn : b.toNat ≠ a.toNat := fun e => h (BitVec.eq_of_toNat_eq e)
  rcases storeLocation_eq map mem a v with ⟨_, e⟩ | ⟨_, e⟩ <;> simp [e, readLocation, Memory.get_set_other _ _ hn]

/-- A write outside RAM changes nothing. -/
theorem storeLocation_not_ram {map : Option MemoryMap} (mem : Memory) {a : Word} (v : Byte)
    (h : kindAt map a ≠ .ram) : storeLocation map mem a v = mem := by
  simp [storeLocation, h]

end Sys2Proof.Machine
end

