-- ==== Sys2Proof/Laws/State.lean ====
section
/-! SUPPORT. One lemma per field per update of the state, so that no proof unfolds a record update. -/

namespace Sys2Proof.Machine

/-! ### Accumulators -/

@[simp] theorem State.setAcc_ix (s : State) (r : Acc) (v : Byte) : (s.setAcc r v).ix = s.ix := by cases r <;> rfl
@[simp] theorem State.setAcc_sp (s : State) (r : Acc) (v : Byte) : (s.setAcc r v).sp = s.sp := by cases r <;> rfl
@[simp] theorem State.setAcc_pc (s : State) (r : Acc) (v : Byte) : (s.setAcc r v).pc = s.pc := by cases r <;> rfl
@[simp] theorem State.setAcc_cc (s : State) (r : Acc) (v : Byte) : (s.setAcc r v).cc = s.cc := by cases r <;> rfl
@[simp] theorem State.setAcc_waiting (s : State) (r : Acc) (v : Byte) : (s.setAcc r v).waiting = s.waiting := by cases r <;> rfl
@[simp] theorem State.setAcc_mem (s : State) (r : Acc) (v : Byte) : (s.setAcc r v).mem = s.mem := by cases r <;> rfl
@[simp] theorem State.setAcc_irqLine (s : State) (r : Acc) (v : Byte) : (s.setAcc r v).irqLine = s.irqLine := by cases r <;> rfl
@[simp] theorem State.setAcc_map (s : State) (r : Acc) (v : Byte) : (s.setAcc r v).map = s.map := by cases r <;> rfl
@[simp] theorem State.setAcc_afterUnmask (s : State) (r : Acc) (v : Byte) : (s.setAcc r v).afterUnmask = s.afterUnmask := by cases r <;> rfl
@[simp] theorem State.setAcc_tick (s : State) (r : Acc) (v : Byte) : (s.setAcc r v).tick = s.tick := by cases r <;> rfl
@[simp] theorem State.setAcc_cycles (s : State) (r : Acc) (v : Byte) : (s.setAcc r v).cycles = s.cycles := by cases r <;> rfl

@[simp] theorem State.setAcc_a_accA (s : State) (v : Byte) : (s.setAcc .a v).accA = v := rfl
@[simp] theorem State.setAcc_a_accB (s : State) (v : Byte) : (s.setAcc .a v).accB = s.accB := rfl
@[simp] theorem State.setAcc_b_accA (s : State) (v : Byte) : (s.setAcc .b v).accA = s.accA := rfl
@[simp] theorem State.setAcc_b_accB (s : State) (v : Byte) : (s.setAcc .b v).accB = v := rfl
@[simp] theorem State.acc_a (s : State) : s.acc .a = s.accA := rfl
@[simp] theorem State.acc_b (s : State) : s.acc .b = s.accB := rfl
@[simp] theorem State.setAcc_acc (s : State) (r : Acc) (v : Byte) : (s.setAcc r v).acc r = v := by cases r <;> rfl

/-! ### Memory writes -/

@[simp] theorem State.writeByte_accA (s : State) (a : Word) (v : Byte) : (s.writeByte a v).accA = s.accA := rfl
@[simp] theorem State.writeByte_accB (s : State) (a : Word) (v : Byte) : (s.writeByte a v).accB = s.accB := rfl
@[simp] theorem State.writeByte_ix (s : State) (a : Word) (v : Byte) : (s.writeByte a v).ix = s.ix := rfl
@[simp] theorem State.writeByte_sp (s : State) (a : Word) (v : Byte) : (s.writeByte a v).sp = s.sp := rfl
@[simp] theorem State.writeByte_pc (s : State) (a : Word) (v : Byte) : (s.writeByte a v).pc = s.pc := rfl
@[simp] theorem State.writeByte_cc (s : State) (a : Word) (v : Byte) : (s.writeByte a v).cc = s.cc := rfl
@[simp] theorem State.writeByte_waiting (s : State) (a : Word) (v : Byte) : (s.writeByte a v).waiting = s.waiting := rfl
@[simp] theorem State.writeByte_irqLine (s : State) (a : Word) (v : Byte) : (s.writeByte a v).irqLine = s.irqLine := rfl
@[simp] theorem State.writeByte_map (s : State) (a : Word) (v : Byte) : (s.writeByte a v).map = s.map := rfl
@[simp] theorem State.writeByte_afterUnmask (s : State) (a : Word) (v : Byte) : (s.writeByte a v).afterUnmask = s.afterUnmask := rfl
@[simp] theorem State.writeByte_tick (s : State) (a : Word) (v : Byte) : (s.writeByte a v).tick = s.tick := rfl
@[simp] theorem State.writeByte_cycles (s : State) (a : Word) (v : Byte) : (s.writeByte a v).cycles = s.cycles := rfl

@[simp] theorem State.writeByte_mem (s : State) (a : Word) (v : Byte) :
    (s.writeByte a v).mem = storeLocation s.map s.mem a v := rfl

@[simp] theorem State.writeWord_accA (s : State) (a v : Word) : (s.writeWord a v).accA = s.accA := by simp [State.writeWord]
@[simp] theorem State.writeWord_accB (s : State) (a v : Word) : (s.writeWord a v).accB = s.accB := by simp [State.writeWord]
@[simp] theorem State.writeWord_ix (s : State) (a v : Word) : (s.writeWord a v).ix = s.ix := by simp [State.writeWord]
@[simp] theorem State.writeWord_sp (s : State) (a v : Word) : (s.writeWord a v).sp = s.sp := by simp [State.writeWord]
@[simp] theorem State.writeWord_pc (s : State) (a v : Word) : (s.writeWord a v).pc = s.pc := by simp [State.writeWord]
@[simp] theorem State.writeWord_cc (s : State) (a v : Word) : (s.writeWord a v).cc = s.cc := by simp [State.writeWord]
@[simp] theorem State.writeWord_waiting (s : State) (a v : Word) : (s.writeWord a v).waiting = s.waiting := by simp [State.writeWord]
@[simp] theorem State.writeWord_irqLine (s : State) (a v : Word) : (s.writeWord a v).irqLine = s.irqLine := by simp [State.writeWord]
@[simp] theorem State.writeWord_map (s : State) (a v : Word) : (s.writeWord a v).map = s.map := by simp [State.writeWord]
@[simp] theorem State.writeWord_afterUnmask (s : State) (a v : Word) : (s.writeWord a v).afterUnmask = s.afterUnmask := by simp [State.writeWord]
@[simp] theorem State.writeWord_tick (s : State) (a v : Word) : (s.writeWord a v).tick = s.tick := by simp [State.writeWord]
@[simp] theorem State.writeWord_cycles (s : State) (a v : Word) : (s.writeWord a v).cycles = s.cycles := by simp [State.writeWord]

/-! ### Stack -/

@[simp] theorem State.push8_accA (s : State) (v : Byte) : (s.push8 v).accA = s.accA := rfl
@[simp] theorem State.push8_accB (s : State) (v : Byte) : (s.push8 v).accB = s.accB := rfl
@[simp] theorem State.push8_ix (s : State) (v : Byte) : (s.push8 v).ix = s.ix := rfl
@[simp] theorem State.push8_pc (s : State) (v : Byte) : (s.push8 v).pc = s.pc := rfl
@[simp] theorem State.push8_cc (s : State) (v : Byte) : (s.push8 v).cc = s.cc := rfl
@[simp] theorem State.push8_waiting (s : State) (v : Byte) : (s.push8 v).waiting = s.waiting := rfl
@[simp] theorem State.push8_irqLine (s : State) (v : Byte) : (s.push8 v).irqLine = s.irqLine := rfl
@[simp] theorem State.push8_map (s : State) (v : Byte) : (s.push8 v).map = s.map := rfl
@[simp] theorem State.push8_afterUnmask (s : State) (v : Byte) : (s.push8 v).afterUnmask = s.afterUnmask := rfl
@[simp] theorem State.push8_tick (s : State) (v : Byte) : (s.push8 v).tick = s.tick := rfl
@[simp] theorem State.push8_cycles (s : State) (v : Byte) : (s.push8 v).cycles = s.cycles := rfl

@[simp] theorem State.push8_sp (s : State) (v : Byte) : (s.push8 v).sp = s.sp - 1 := rfl
@[simp] theorem State.push8_mem (s : State) (v : Byte) : (s.push8 v).mem = storeLocation s.map s.mem s.sp v := rfl

@[simp] theorem State.push16_accA (s : State) (v : Word) : (s.push16 v).accA = s.accA := by simp [State.push16]
@[simp] theorem State.push16_accB (s : State) (v : Word) : (s.push16 v).accB = s.accB := by simp [State.push16]
@[simp] theorem State.push16_ix (s : State) (v : Word) : (s.push16 v).ix = s.ix := by simp [State.push16]
@[simp] theorem State.push16_pc (s : State) (v : Word) : (s.push16 v).pc = s.pc := by simp [State.push16]
@[simp] theorem State.push16_cc (s : State) (v : Word) : (s.push16 v).cc = s.cc := by simp [State.push16]
@[simp] theorem State.push16_waiting (s : State) (v : Word) : (s.push16 v).waiting = s.waiting := by simp [State.push16]
@[simp] theorem State.push16_irqLine (s : State) (v : Word) : (s.push16 v).irqLine = s.irqLine := by simp [State.push16]
@[simp] theorem State.push16_map (s : State) (v : Word) : (s.push16 v).map = s.map := by simp [State.push16]
@[simp] theorem State.push16_afterUnmask (s : State) (v : Word) : (s.push16 v).afterUnmask = s.afterUnmask := by simp [State.push16]
@[simp] theorem State.push16_tick (s : State) (v : Word) : (s.push16 v).tick = s.tick := by simp [State.push16]
@[simp] theorem State.push16_cycles (s : State) (v : Word) : (s.push16 v).cycles = s.cycles := by simp [State.push16]

@[simp] theorem State.push16_sp (s : State) (v : Word) : (s.push16 v).sp = s.sp - 2 := by
  simp only [State.push16, State.push8_sp]; bv_omega

@[simp] theorem State.pushFrame_accA (s : State) : (s.pushFrame).accA = s.accA := by simp [State.pushFrame]
@[simp] theorem State.pushFrame_accB (s : State) : (s.pushFrame).accB = s.accB := by simp [State.pushFrame]
@[simp] theorem State.pushFrame_ix (s : State) : (s.pushFrame).ix = s.ix := by simp [State.pushFrame]
@[simp] theorem State.pushFrame_pc (s : State) : (s.pushFrame).pc = s.pc := by simp [State.pushFrame]
@[simp] theorem State.pushFrame_cc (s : State) : (s.pushFrame).cc = s.cc := by simp [State.pushFrame]
@[simp] theorem State.pushFrame_waiting (s : State) : (s.pushFrame).waiting = s.waiting := by simp [State.pushFrame]
@[simp] theorem State.pushFrame_irqLine (s : State) : (s.pushFrame).irqLine = s.irqLine := by simp [State.pushFrame]
@[simp] theorem State.pushFrame_map (s : State) : (s.pushFrame).map = s.map := by simp [State.pushFrame]
@[simp] theorem State.pushFrame_afterUnmask (s : State) : (s.pushFrame).afterUnmask = s.afterUnmask := by simp [State.pushFrame]
@[simp] theorem State.pushFrame_tick (s : State) : (s.pushFrame).tick = s.tick := by simp [State.pushFrame]
@[simp] theorem State.pushFrame_cycles (s : State) : (s.pushFrame).cycles = s.cycles := by simp [State.pushFrame]

@[simp] theorem State.pushFrame_sp (s : State) : s.pushFrame.sp = s.sp - 7 := by
  simp only [State.pushFrame, State.push8_sp, State.push16_sp]; simp only [BitVec.sub_sub]; rfl

@[simp] theorem State.pull8_accA (s : State) : (s.pull8.2).accA = s.accA := rfl
@[simp] theorem State.pull8_accB (s : State) : (s.pull8.2).accB = s.accB := rfl
@[simp] theorem State.pull8_ix (s : State) : (s.pull8.2).ix = s.ix := rfl
@[simp] theorem State.pull8_pc (s : State) : (s.pull8.2).pc = s.pc := rfl
@[simp] theorem State.pull8_cc (s : State) : (s.pull8.2).cc = s.cc := rfl
@[simp] theorem State.pull8_waiting (s : State) : (s.pull8.2).waiting = s.waiting := rfl
@[simp] theorem State.pull8_mem (s : State) : (s.pull8.2).mem = s.mem := rfl
@[simp] theorem State.pull8_irqLine (s : State) : (s.pull8.2).irqLine = s.irqLine := rfl
@[simp] theorem State.pull8_map (s : State) : (s.pull8.2).map = s.map := rfl
@[simp] theorem State.pull8_afterUnmask (s : State) : (s.pull8.2).afterUnmask = s.afterUnmask := rfl
@[simp] theorem State.pull8_tick (s : State) : (s.pull8.2).tick = s.tick := rfl
@[simp] theorem State.pull8_cycles (s : State) : (s.pull8.2).cycles = s.cycles := rfl

@[simp] theorem State.pull8_sp (s : State) : s.pull8.2.sp = s.sp + 1 := rfl
@[simp] theorem State.pull8_val (s : State) : s.pull8.1 = s.readByte (s.sp + 1) := rfl

@[simp] theorem State.pull16_accA (s : State) : (s.pull16.2).accA = s.accA := by simp [State.pull16]
@[simp] theorem State.pull16_accB (s : State) : (s.pull16.2).accB = s.accB := by simp [State.pull16]
@[simp] theorem State.pull16_ix (s : State) : (s.pull16.2).ix = s.ix := by simp [State.pull16]
@[simp] theorem State.pull16_pc (s : State) : (s.pull16.2).pc = s.pc := by simp [State.pull16]
@[simp] theorem State.pull16_cc (s : State) : (s.pull16.2).cc = s.cc := by simp [State.pull16]
@[simp] theorem State.pull16_waiting (s : State) : (s.pull16.2).waiting = s.waiting := by simp [State.pull16]
@[simp] theorem State.pull16_mem (s : State) : (s.pull16.2).mem = s.mem := by simp [State.pull16]
@[simp] theorem State.pull16_irqLine (s : State) : (s.pull16.2).irqLine = s.irqLine := by simp [State.pull16]
@[simp] theorem State.pull16_map (s : State) : (s.pull16.2).map = s.map := by simp [State.pull16]
@[simp] theorem State.pull16_afterUnmask (s : State) : (s.pull16.2).afterUnmask = s.afterUnmask := by simp [State.pull16]
@[simp] theorem State.pull16_tick (s : State) : (s.pull16.2).tick = s.tick := by simp [State.pull16]
@[simp] theorem State.pull16_cycles (s : State) : (s.pull16.2).cycles = s.cycles := by simp [State.pull16]

@[simp] theorem State.pull16_sp (s : State) : s.pull16.2.sp = s.sp + 2 := by
  simp only [State.pull16, State.pull8_sp]; bv_omega
@[simp] theorem State.pull16_val (s : State) :
    s.pull16.1 = wordOf (s.readByte (s.sp + 1)) (s.readByte (s.sp + 1 + 1)) := by
  simp [State.pull16, State.readByte]

/-! ### Interrupts -/

@[simp] theorem State.enterHandler_accA (s : State) (p : Word) : (s.enterHandler p).accA = s.accA := by simp [State.enterHandler]
@[simp] theorem State.enterHandler_accB (s : State) (p : Word) : (s.enterHandler p).accB = s.accB := by simp [State.enterHandler]
@[simp] theorem State.enterHandler_ix (s : State) (p : Word) : (s.enterHandler p).ix = s.ix := by simp [State.enterHandler]
@[simp] theorem State.enterHandler_sp (s : State) (p : Word) : (s.enterHandler p).sp = s.sp := by simp [State.enterHandler]
@[simp] theorem State.enterHandler_waiting (s : State) (p : Word) : (s.enterHandler p).waiting = s.waiting := by simp [State.enterHandler]
@[simp] theorem State.enterHandler_mem (s : State) (p : Word) : (s.enterHandler p).mem = s.mem := by simp [State.enterHandler]
@[simp] theorem State.enterHandler_irqLine (s : State) (p : Word) : (s.enterHandler p).irqLine = s.irqLine := by simp [State.enterHandler]
@[simp] theorem State.enterHandler_map (s : State) (p : Word) : (s.enterHandler p).map = s.map := by simp [State.enterHandler]
@[simp] theorem State.enterHandler_afterUnmask (s : State) (p : Word) : (s.enterHandler p).afterUnmask = s.afterUnmask := by simp [State.enterHandler]
@[simp] theorem State.enterHandler_tick (s : State) (p : Word) : (s.enterHandler p).tick = s.tick := by simp [State.enterHandler]
@[simp] theorem State.enterHandler_cycles (s : State) (p : Word) : (s.enterHandler p).cycles = s.cycles := by simp [State.enterHandler]

@[simp] theorem State.enterHandler_cc (s : State) (p : Word) :
    (s.enterHandler p).cc = { s.cc with i := true } := rfl
@[simp] theorem State.enterHandler_pc (s : State) (p : Word) : (s.enterHandler p).pc = s.readWord p := rfl

@[simp] theorem State.pullFrame_waiting (s : State) : (s.pullFrame).waiting = s.waiting := by simp [State.pullFrame]
@[simp] theorem State.pullFrame_mem (s : State) : (s.pullFrame).mem = s.mem := by simp [State.pullFrame]
@[simp] theorem State.pullFrame_irqLine (s : State) : (s.pullFrame).irqLine = s.irqLine := by simp [State.pullFrame]
@[simp] theorem State.pullFrame_map (s : State) : (s.pullFrame).map = s.map := by simp [State.pullFrame]
@[simp] theorem State.pullFrame_afterUnmask (s : State) : (s.pullFrame).afterUnmask = s.afterUnmask := by simp [State.pullFrame]
@[simp] theorem State.pullFrame_tick (s : State) : (s.pullFrame).tick = s.tick := by simp [State.pullFrame]
@[simp] theorem State.pullFrame_cycles (s : State) : (s.pullFrame).cycles = s.cycles := by simp [State.pullFrame]

/-! ### Places, branches, single registers -/

@[simp] theorem State.writePlace_ix (s : State) (p : Place) (v : Byte) : (s.writePlace p v).ix = s.ix := by
  cases p <;> simp [State.writePlace]
@[simp] theorem State.writePlace_sp (s : State) (p : Place) (v : Byte) : (s.writePlace p v).sp = s.sp := by
  cases p <;> simp [State.writePlace]
@[simp] theorem State.writePlace_pc (s : State) (p : Place) (v : Byte) : (s.writePlace p v).pc = s.pc := by
  cases p <;> simp [State.writePlace]
@[simp] theorem State.writePlace_cc (s : State) (p : Place) (v : Byte) : (s.writePlace p v).cc = s.cc := by
  cases p <;> simp [State.writePlace]
@[simp] theorem State.writePlace_waiting (s : State) (p : Place) (v : Byte) : (s.writePlace p v).waiting = s.waiting := by
  cases p <;> simp [State.writePlace]
@[simp] theorem State.writePlace_irqLine (s : State) (p : Place) (v : Byte) : (s.writePlace p v).irqLine = s.irqLine := by
  cases p <;> simp [State.writePlace]
@[simp] theorem State.writePlace_map (s : State) (p : Place) (v : Byte) : (s.writePlace p v).map = s.map := by
  cases p <;> simp [State.writePlace]
@[simp] theorem State.writePlace_afterUnmask (s : State) (p : Place) (v : Byte) : (s.writePlace p v).afterUnmask = s.afterUnmask := by
  cases p <;> simp [State.writePlace]
@[simp] theorem State.writePlace_tick (s : State) (p : Place) (v : Byte) : (s.writePlace p v).tick = s.tick := by
  cases p <;> simp [State.writePlace]
@[simp] theorem State.writePlace_cycles (s : State) (p : Place) (v : Byte) : (s.writePlace p v).cycles = s.cycles := by
  cases p <;> simp [State.writePlace]

@[simp] theorem State.branchIf_accA (s : State) (c : Bool) (rel : Byte) : (branchIf c rel s).accA = s.accA := by cases c <;> rfl
@[simp] theorem State.branchIf_accB (s : State) (c : Bool) (rel : Byte) : (branchIf c rel s).accB = s.accB := by cases c <;> rfl
@[simp] theorem State.branchIf_ix (s : State) (c : Bool) (rel : Byte) : (branchIf c rel s).ix = s.ix := by cases c <;> rfl
@[simp] theorem State.branchIf_sp (s : State) (c : Bool) (rel : Byte) : (branchIf c rel s).sp = s.sp := by cases c <;> rfl
@[simp] theorem State.branchIf_cc (s : State) (c : Bool) (rel : Byte) : (branchIf c rel s).cc = s.cc := by cases c <;> rfl
@[simp] theorem State.branchIf_waiting (s : State) (c : Bool) (rel : Byte) : (branchIf c rel s).waiting = s.waiting := by cases c <;> rfl
@[simp] theorem State.branchIf_mem (s : State) (c : Bool) (rel : Byte) : (branchIf c rel s).mem = s.mem := by cases c <;> rfl
@[simp] theorem State.branchIf_irqLine (s : State) (c : Bool) (rel : Byte) : (branchIf c rel s).irqLine = s.irqLine := by cases c <;> rfl
@[simp] theorem State.branchIf_map (s : State) (c : Bool) (rel : Byte) : (branchIf c rel s).map = s.map := by cases c <;> rfl
@[simp] theorem State.branchIf_afterUnmask (s : State) (c : Bool) (rel : Byte) : (branchIf c rel s).afterUnmask = s.afterUnmask := by cases c <;> rfl
@[simp] theorem State.branchIf_tick (s : State) (c : Bool) (rel : Byte) : (branchIf c rel s).tick = s.tick := by cases c <;> rfl
@[simp] theorem State.branchIf_cycles (s : State) (c : Bool) (rel : Byte) : (branchIf c rel s).cycles = s.cycles := by cases c <;> rfl

@[simp] theorem State.callTo_accA (s : State) (a : Word) : (callTo a s).accA = s.accA := by simp [callTo]
@[simp] theorem State.callTo_accB (s : State) (a : Word) : (callTo a s).accB = s.accB := by simp [callTo]
@[simp] theorem State.callTo_ix (s : State) (a : Word) : (callTo a s).ix = s.ix := by simp [callTo]
@[simp] theorem State.callTo_cc (s : State) (a : Word) : (callTo a s).cc = s.cc := by simp [callTo]
@[simp] theorem State.callTo_waiting (s : State) (a : Word) : (callTo a s).waiting = s.waiting := by simp [callTo]
@[simp] theorem State.callTo_irqLine (s : State) (a : Word) : (callTo a s).irqLine = s.irqLine := by simp [callTo]
@[simp] theorem State.callTo_map (s : State) (a : Word) : (callTo a s).map = s.map := by simp [callTo]
@[simp] theorem State.callTo_afterUnmask (s : State) (a : Word) : (callTo a s).afterUnmask = s.afterUnmask := by simp [callTo]
@[simp] theorem State.callTo_tick (s : State) (a : Word) : (callTo a s).tick = s.tick := by simp [callTo]
@[simp] theorem State.callTo_cycles (s : State) (a : Word) : (callTo a s).cycles = s.cycles := by simp [callTo]

@[simp] theorem State.setIndex_accA (s : State) (v : Word) : (setIndex v s).accA = s.accA := rfl
@[simp] theorem State.setIndex_accB (s : State) (v : Word) : (setIndex v s).accB = s.accB := rfl
@[simp] theorem State.setIndex_sp (s : State) (v : Word) : (setIndex v s).sp = s.sp := rfl
@[simp] theorem State.setIndex_pc (s : State) (v : Word) : (setIndex v s).pc = s.pc := rfl
@[simp] theorem State.setIndex_waiting (s : State) (v : Word) : (setIndex v s).waiting = s.waiting := rfl
@[simp] theorem State.setIndex_mem (s : State) (v : Word) : (setIndex v s).mem = s.mem := rfl
@[simp] theorem State.setIndex_irqLine (s : State) (v : Word) : (setIndex v s).irqLine = s.irqLine := rfl
@[simp] theorem State.setIndex_map (s : State) (v : Word) : (setIndex v s).map = s.map := rfl
@[simp] theorem State.setIndex_afterUnmask (s : State) (v : Word) : (setIndex v s).afterUnmask = s.afterUnmask := rfl
@[simp] theorem State.setIndex_tick (s : State) (v : Word) : (setIndex v s).tick = s.tick := rfl
@[simp] theorem State.setIndex_cycles (s : State) (v : Word) : (setIndex v s).cycles = s.cycles := rfl

@[simp] theorem State.setMask_accA (s : State) (c : CC) : (setMask c s).accA = s.accA := rfl
@[simp] theorem State.setMask_accB (s : State) (c : CC) : (setMask c s).accB = s.accB := rfl
@[simp] theorem State.setMask_ix (s : State) (c : CC) : (setMask c s).ix = s.ix := rfl
@[simp] theorem State.setMask_sp (s : State) (c : CC) : (setMask c s).sp = s.sp := rfl
@[simp] theorem State.setMask_pc (s : State) (c : CC) : (setMask c s).pc = s.pc := rfl
@[simp] theorem State.setMask_waiting (s : State) (c : CC) : (setMask c s).waiting = s.waiting := rfl
@[simp] theorem State.setMask_mem (s : State) (c : CC) : (setMask c s).mem = s.mem := rfl
@[simp] theorem State.setMask_irqLine (s : State) (c : CC) : (setMask c s).irqLine = s.irqLine := rfl
@[simp] theorem State.setMask_map (s : State) (c : CC) : (setMask c s).map = s.map := rfl
@[simp] theorem State.setMask_tick (s : State) (c : CC) : (setMask c s).tick = s.tick := rfl
@[simp] theorem State.setMask_cycles (s : State) (c : CC) : (setMask c s).cycles = s.cycles := rfl

/-! ### The step's bookkeeping -/

@[simp] theorem State.beginStep_accA (s : State) : (s.beginStep).accA = s.accA := rfl
@[simp] theorem State.beginStep_accB (s : State) : (s.beginStep).accB = s.accB := rfl
@[simp] theorem State.beginStep_ix (s : State) : (s.beginStep).ix = s.ix := rfl
@[simp] theorem State.beginStep_sp (s : State) : (s.beginStep).sp = s.sp := rfl
@[simp] theorem State.beginStep_pc (s : State) : (s.beginStep).pc = s.pc := rfl
@[simp] theorem State.beginStep_cc (s : State) : (s.beginStep).cc = s.cc := rfl
@[simp] theorem State.beginStep_waiting (s : State) : (s.beginStep).waiting = s.waiting := rfl
@[simp] theorem State.beginStep_mem (s : State) : (s.beginStep).mem = s.mem := rfl
@[simp] theorem State.beginStep_map (s : State) : (s.beginStep).map = s.map := rfl
@[simp] theorem State.beginStep_afterUnmask (s : State) : (s.beginStep).afterUnmask = s.afterUnmask := rfl
@[simp] theorem State.beginStep_cycles (s : State) : (s.beginStep).cycles = s.cycles := rfl

@[simp] theorem State.beginStep_irqLine (s : State) : s.beginStep.irqLine = s.irqLine.tail := rfl
@[simp] theorem State.beginStep_tick (s : State) : s.beginStep.tick = s.tick + 1 := rfl

@[simp] theorem State.pastInstr_accA (s : State) (i : Instr) : (s.pastInstr i).accA = s.accA := rfl
@[simp] theorem State.pastInstr_accB (s : State) (i : Instr) : (s.pastInstr i).accB = s.accB := rfl
@[simp] theorem State.pastInstr_ix (s : State) (i : Instr) : (s.pastInstr i).ix = s.ix := rfl
@[simp] theorem State.pastInstr_sp (s : State) (i : Instr) : (s.pastInstr i).sp = s.sp := rfl
@[simp] theorem State.pastInstr_cc (s : State) (i : Instr) : (s.pastInstr i).cc = s.cc := rfl
@[simp] theorem State.pastInstr_waiting (s : State) (i : Instr) : (s.pastInstr i).waiting = s.waiting := rfl
@[simp] theorem State.pastInstr_mem (s : State) (i : Instr) : (s.pastInstr i).mem = s.mem := rfl
@[simp] theorem State.pastInstr_irqLine (s : State) (i : Instr) : (s.pastInstr i).irqLine = s.irqLine := rfl
@[simp] theorem State.pastInstr_map (s : State) (i : Instr) : (s.pastInstr i).map = s.map := rfl
@[simp] theorem State.pastInstr_tick (s : State) (i : Instr) : (s.pastInstr i).tick = s.tick := rfl

@[simp] theorem State.pastInstr_afterUnmask (s : State) (i : Instr) : (s.pastInstr i).afterUnmask = false := rfl
@[simp] theorem State.pastInstr_cycles (s : State) (i : Instr) :
    (s.pastInstr i).cycles = s.cycles + cyclesOf i := rfl

/-! ### The start state -/

@[simp] theorem State.powerOn_accA (p : Option Word) (map : Option MemoryMap) (image : Memory) (line : List Bool) :
    (State.powerOn p map image line).accA = 0x00 := rfl
@[simp] theorem State.powerOn_accB (p : Option Word) (map : Option MemoryMap) (image : Memory) (line : List Bool) :
    (State.powerOn p map image line).accB = 0x00 := rfl
@[simp] theorem State.powerOn_ix (p : Option Word) (map : Option MemoryMap) (image : Memory) (line : List Bool) :
    (State.powerOn p map image line).ix = 0x0000 := rfl
@[simp] theorem State.powerOn_sp (p : Option Word) (map : Option MemoryMap) (image : Memory) (line : List Bool) :
    (State.powerOn p map image line).sp = 0x0000 := rfl
@[simp] theorem State.powerOn_cc (p : Option Word) (map : Option MemoryMap) (image : Memory) (line : List Bool) :
    (State.powerOn p map image line).cc = { h := false, i := true, n := false, z := false, v := false, c := false } := rfl
@[simp] theorem State.powerOn_waiting (p : Option Word) (map : Option MemoryMap) (image : Memory) (line : List Bool) :
    (State.powerOn p map image line).waiting = false := rfl
@[simp] theorem State.powerOn_mem (p : Option Word) (map : Option MemoryMap) (image : Memory) (line : List Bool) :
    (State.powerOn p map image line).mem = image := rfl
@[simp] theorem State.powerOn_irqLine (p : Option Word) (map : Option MemoryMap) (image : Memory) (line : List Bool) :
    (State.powerOn p map image line).irqLine = line := rfl
@[simp] theorem State.powerOn_map (p : Option Word) (map : Option MemoryMap) (image : Memory) (line : List Bool) :
    (State.powerOn p map image line).map = map := rfl
@[simp] theorem State.powerOn_afterUnmask (p : Option Word) (map : Option MemoryMap) (image : Memory) (line : List Bool) :
    (State.powerOn p map image line).afterUnmask = false := rfl
@[simp] theorem State.powerOn_tick (p : Option Word) (map : Option MemoryMap) (image : Memory) (line : List Bool) :
    (State.powerOn p map image line).tick = 0 := rfl
@[simp] theorem State.powerOn_cycles (p : Option Word) (map : Option MemoryMap) (image : Memory) (line : List Bool) :
    (State.powerOn p map image line).cycles = Config.resetCycles := rfl
@[simp] theorem State.powerOn_pc_given (p : Word) (map : Option MemoryMap) (image : Memory) (line : List Bool) :
    (State.powerOn (some p) map image line).pc = p := rfl
@[simp] theorem State.powerOn_pc (map : Option MemoryMap) (image : Memory) (line : List Bool) :
    (State.powerOn none map image line).pc =
      wordOf (readLocation map image 0 .data resetPointer) (readLocation map image 0 .data (resetPointer + 1)) := rfl

end Sys2Proof.Machine
end

