-- ==== Sys2Proof/Laws/Ops.lean ====
section
/-! SUPPORT. For each shared operation over memory, stack and interrupts, what it does, said once. -/

namespace Sys2Proof.Machine

/-! ### Reading -/

/-- What a read gives depends on the map, the memory and the step counter only. -/
theorem State.readByte_congr {s t : State} (hmap : t.map = s.map) (hmem : t.mem = s.mem) (htick : t.tick = s.tick)
    (a : Word) : t.readByte a = s.readByte a := by
  simp [State.readByte, hmap, hmem, htick]

/-- The same of a fetch. -/
theorem State.fetchByte_congr {s t : State} (hmap : t.map = s.map) (hmem : t.mem = s.mem) (htick : t.tick = s.tick)
    (a : Word) : t.fetchByte a = s.fetchByte a := by
  simp [State.fetchByte, hmap, hmem, htick]

/-! ### Writing -/

/-- What every address reads as after a byte write. -/
theorem State.readByte_writeByte (s : State) (a b : Word) (v : Byte) :
    (s.writeByte a v).readByte b = if b = a ∧ kindAt s.map a = .ram then v else s.readByte b := by
  unfold State.readByte State.writeByte
  by_cases hb : b = a
  · subst hb
    by_cases hk : kindAt s.map b = .ram
    · simp [hk, readLocation_store_same]
    · simp [hk, storeLocation_not_ram]
  · simp [hb, readLocation_store_other]

/-- What every address is fetched as after a byte write (20_memory.md R65). -/
theorem State.fetchByte_writeByte (s : State) (a b : Word) (v : Byte) :
    (s.writeByte a v).fetchByte b = if b = a ∧ kindAt s.map a = .ram then v else s.fetchByte b := by
  unfold State.fetchByte State.writeByte
  by_cases hb : b = a
  · subst hb
    by_cases hk : kindAt s.map b = .ram
    · simp [hk, readLocation_store_same]
    · simp [hk, storeLocation_not_ram]
  · simp [hb, readLocation_store_other]

/-- A write where there is no RAM changes nothing. -/
theorem State.writeByte_not_ram (s : State) {a : Word} (v : Byte) (h : kindAt s.map a ≠ .ram) :
    s.writeByte a v = s := by
  simp [State.writeByte, storeLocation_not_ram _ _ h]

/-- Several byte writes, the first one listed first. -/
def State.writeBytes (s : State) : List (Word × Byte) → State
  | [] => s
  | e :: rest => (s.writeByte e.1 e.2).writeBytes rest

/-- Writes touch memory only. -/
theorem State.writeBytes_eq (s : State) (l : List (Word × Byte)) :
    s.writeBytes l = { s with mem := (s.writeBytes l).mem } := by
  induction l generalizing s with
  | nil => rfl
  | cons e rest ih => simp only [State.writeBytes]; rw [ih]; rfl

@[simp] theorem State.writeBytes_map (s : State) (l : List (Word × Byte)) : (s.writeBytes l).map = s.map := by
  rw [State.writeBytes_eq]

@[simp] theorem State.writeBytes_tick (s : State) (l : List (Word × Byte)) : (s.writeBytes l).tick = s.tick := by
  rw [State.writeBytes_eq]

@[simp] theorem State.writeBytes_irqLine (s : State) (l : List (Word × Byte)) :
    (s.writeBytes l).irqLine = s.irqLine := by
  rw [State.writeBytes_eq]

@[simp] theorem State.writeBytes_cycles (s : State) (l : List (Word × Byte)) :
    (s.writeBytes l).cycles = s.cycles := by
  rw [State.writeBytes_eq]

theorem State.writeBytes_append (s : State) (l m : List (Word × Byte)) :
    s.writeBytes (l ++ m) = (s.writeBytes l).writeBytes m := by
  induction l generalizing s with
  | nil => rfl
  | cons e rest ih => exact ih _

/-- What every address reads as after several writes: the last byte listed for it, if it is RAM. -/
theorem State.readByte_writeBytes (s : State) (l : List (Word × Byte)) (a : Word) :
    (s.writeBytes l).readByte a =
      match l.reverse.find? (fun e => e.1 == a) with
      | some e => if kindAt s.map a = .ram then e.2 else s.readByte a
      | none => s.readByte a := by
  induction l using List.reverseRecOn with
  | nil => rfl
  | append_singleton l e ih =>
    simp only [State.writeBytes_append, State.writeBytes, State.readByte_writeByte, State.writeBytes_map, ih,
      List.reverse_append, List.reverse_cons, List.reverse_nil, List.nil_append, List.singleton_append,
      List.find?_cons]
    by_cases h : a = e.1
    · subst h
      by_cases hk : kindAt s.map e.1 = .ram
      · simp [hk]
      · simp only [hk, and_false, if_false, beq_self_eq_true]
        split <;> rfl
    · have hn : (e.1 == a) = false := by simpa using fun h' => h h'.symm
      simp [h, hn]

/-- An address that is not listed keeps its byte, for reads and for fetches. -/
theorem State.writeBytes_other (s : State) {l : List (Word × Byte)} {a : Word} (h : a ∉ l.map Prod.fst) :
    (s.writeBytes l).readByte a = s.readByte a ∧ (s.writeBytes l).fetchByte a = s.fetchByte a := by
  induction l generalizing s with
  | nil => exact ⟨rfl, rfl⟩
  | cons e rest ih =>
    simp only [List.map_cons, List.mem_cons, not_or] at h
    have := ih (s.writeByte e.1 e.2) h.2
    simp only [State.writeBytes, this, State.readByte_writeByte, State.fetchByte_writeByte, h.1, false_and, if_false,
      and_self]

/-- Writes keep the canonical form. -/
theorem State.writeBytes_wf {s : State} (l : List (Word × Byte)) (h : s.mem.wf = true) :
    (s.writeBytes l).mem.wf = true := by
  induction l generalizing s with
  | nil => exact h
  | cons e rest ih => exact ih (storeLocation_wf _ _ h)

/-- Writes leave what is not RAM as it was. -/
theorem State.writeBytes_not_ram {s : State} (l : List (Word × Byte)) {a : Word} (h : kindAt s.map a ≠ .ram) :
    (s.writeBytes l).mem.get a.toNat = s.mem.get a.toNat := by
  induction l generalizing s with
  | nil => rfl
  | cons e rest ih =>
    rw [State.writeBytes, ih (by simpa using h), State.writeByte_mem]
    by_cases he : e.1 = a
    · rw [storeLocation_not_ram _ _ (he ▸ h)]
    · rcases storeLocation_eq s.map s.mem e.1 e.2 with ⟨_, q⟩ | ⟨_, q⟩ <;> rw [q]
      exact Memory.get_set_other _ _ fun q => he (BitVec.eq_of_toNat_eq q.symm)

/-! ### Each writing operation as the list of its writes -/

theorem State.writeByte_eq (s : State) (a : Word) (v : Byte) : s.writeByte a v = s.writeBytes [(a, v)] := rfl

theorem State.writeWord_eq (s : State) (a v : Word) :
    s.writeWord a v = s.writeBytes [(a, hi8 v), (a + 1, lo8 v)] := rfl

theorem State.push8_eq (s : State) (v : Byte) :
    s.push8 v = { s.writeBytes [(s.sp, v)] with sp := s.sp - 1 } := rfl

/-- A pushed word lies low byte at SP, high byte at SP - 1 (20_memory.md R51). -/
theorem State.push16_eq (s : State) (v : Word) :
    s.push16 v = { s.writeBytes [(s.sp, lo8 v), (s.sp - 1, hi8 v)] with sp := s.sp - 2 } := by
  have : s.sp - 1 - 1 = s.sp - 2 := by simp only [BitVec.sub_sub]; rfl
  simp only [State.push16, State.push8, State.writeBytes, State.writeByte, this]

/-- The seven bytes of a frame and where they go (20_memory.md R67). -/
def State.frame (s : State) : List (Word × Byte) :=
  [(s.sp, lo8 s.pc), (s.sp - 1, hi8 s.pc), (s.sp - 2, lo8 s.ix), (s.sp - 3, hi8 s.ix), (s.sp - 4, s.accA),
   (s.sp - 5, s.accB), (s.sp - 6, s.cc.toByte)]

theorem State.pushFrame_eq (s : State) : s.pushFrame = { s.writeBytes s.frame with sp := s.sp - 7 } := by
  have h3 : s.sp - 2 - 1 = s.sp - 3 := by simp only [BitVec.sub_sub]; rfl
  have h4 : s.sp - 2 - 2 = s.sp - 4 := by simp only [BitVec.sub_sub]; rfl
  have h5 : s.sp - 4 - 1 = s.sp - 5 := by simp only [BitVec.sub_sub]; rfl
  have h6 : s.sp - 5 - 1 = s.sp - 6 := by simp only [BitVec.sub_sub]; rfl
  have h7 : s.sp - 6 - 1 = s.sp - 7 := by simp only [BitVec.sub_sub]; rfl
  simp only [State.pushFrame, State.push16_eq, State.push8_eq, State.writeBytes, State.writeByte, State.frame, h3, h4,
    h5, h6, h7]

theorem callTo_eq (target : Word) (s : State) :
    callTo target s = { s.writeBytes [(s.sp, lo8 s.pc), (s.sp - 1, hi8 s.pc)] with sp := s.sp - 2, pc := target } := by
  simp only [callTo, State.push16_eq]

/-- Taking an interrupt: the frame, I set, PC from the pointer as memory then reads (60_exceptions.md R304). -/
theorem State.takeInterrupt_eq (s : State) (p : Word) :
    s.takeInterrupt p = { s.writeBytes s.frame with
      sp := s.sp - 7, cc := { s.cc with i := true }, pc := (s.writeBytes s.frame).readWord p } := by
  rw [State.takeInterrupt, State.pushFrame_eq, State.enterHandler, State.writeBytes_eq]
  simp [State.readWord, State.readByte]

/-- The return: seven bytes upwards from SP + 1 (47_interrupt_instructions.md R292). -/
theorem State.pullFrame_eq (s : State) :
    s.pullFrame = { s with
      cc := CC.ofByte (s.readByte (s.sp + 1)), accB := s.readByte (s.sp + 2), accA := s.readByte (s.sp + 3)
      ix := wordOf (s.readByte (s.sp + 4)) (s.readByte (s.sp + 5))
      pc := wordOf (s.readByte (s.sp + 6)) (s.readByte (s.sp + 7)), sp := s.sp + 7 } := by
  have h2 : s.sp + 1 + 1 = s.sp + 2 := by simp only [BitVec.add_assoc]; rfl
  have h3 : s.sp + 2 + 1 = s.sp + 3 := by simp only [BitVec.add_assoc]; rfl
  have h4 : s.sp + 3 + 1 = s.sp + 4 := by simp only [BitVec.add_assoc]; rfl
  have h5 : s.sp + 4 + 1 = s.sp + 5 := by simp only [BitVec.add_assoc]; rfl
  have h6 : s.sp + 5 + 1 = s.sp + 6 := by simp only [BitVec.add_assoc]; rfl
  have h7 : s.sp + 6 + 1 = s.sp + 7 := by simp only [BitVec.add_assoc]; rfl
  simp only [State.pullFrame, State.pull16, State.pull8, State.readByte, h2, h3, h4, h5, h6, h7]

end Sys2Proof.Machine
end

