-- ==== Sys2Proof/Laws/Step.lean ====
section
/-! SUPPORT. What the fetched bytes decode to, and all that a step can do. -/

namespace Sys2Proof.Machine

@[simp] theorem State.fetchOperands_length (s : State) (a : Word) (n : Nat) : (s.fetchOperands a n).length = n := by
  induction n generalizing a with
  | zero => rfl
  | succ n ih => simp [State.fetchOperands, ih]

/-- The bytes at PC are the whole encoding of one instruction, or the first of them is unassigned. -/
theorem State.decode_fetchBytes (s : State) :
    (s.fetchByte s.pc ∈ unassignedOpcodes ∧
      decode s.fetchBytes = .rejected (.illegalOpcode (s.fetchByte s.pc))) ∨
    ∃ i, decode s.fetchBytes = .ok i [] ∧ encode i = s.fetchBytes := by
  unfold State.fetchBytes
  dsimp only
  rcases decode_cons_cases (s.fetchByte s.pc)
      (s.fetchOperands (s.pc + 1) (operandCount (s.fetchByte s.pc))) with
    ⟨n, hc, e⟩ | ⟨i, n, hc, hi, e⟩ | ⟨f, n, hc, hf, ⟨hr, e⟩ | ⟨b, r, hr, e⟩⟩ | ⟨f, n, hc, hf, ⟨hr, e⟩ | ⟨h, l, r, hr, e⟩⟩ <;>
    rw [hc] at e ⊢
  · exact .inl ⟨n, e⟩
  · exact .inr ⟨i, e, hi⟩
  · rw [hc] at hr; cases hr
  · rw [hc] at hr; cases hr; exact .inr ⟨_, e, hf _⟩
  · rw [hc] at hr; simp at hr
  · rw [hc] at hr; cases hr; exact .inr ⟨_, e, by rw [hf, hi8_wordOf, lo8_wordOf]; rfl⟩

/-- All that a step can do: wait on or resume, enter the interrupt handler, run the instruction at PC, or be refused
at an unassigned byte. -/
theorem step_cases (s : State) :
    (s.waiting = true ∧ step s = .next (s.beginStep.waitStep s.irq)) ∨
    (s.waiting = false ∧ s.beginStep.recognises s.irq = true ∧ step s = .next s.beginStep.interruptEntry) ∨
    (s.waiting = false ∧ s.beginStep.recognises s.irq = false ∧
      ∃ i, decode s.beginStep.fetchBytes = .ok i [] ∧ encode i = s.beginStep.fetchBytes ∧
        step s = exec i (s.beginStep.pastInstr i)) ∨
    (s.waiting = false ∧ s.beginStep.recognises s.irq = false ∧ s.beginStep.fetchByte s.pc ∈ unassignedOpcodes ∧
      step s = .refused (.illegalOpcode (s.beginStep.fetchByte s.pc))) := by
  cases hw : s.waiting
  · cases hr : s.beginStep.recognises s.irq
    · rcases s.beginStep.decode_fetchBytes with ⟨hu, hd⟩ | ⟨i, hd, he⟩
      · exact .inr (.inr (.inr ⟨rfl, rfl, hu, by simp [step, hw, hr, hd]⟩))
      · exact .inr (.inr (.inl ⟨rfl, rfl, i, hd, he, by simp [step, hw, hr, hd]⟩))
    · exact .inr (.inl ⟨rfl, rfl, by simp [step, hw, hr]⟩)
  · exact .inl ⟨rfl, by simp [step, hw]⟩

end Sys2Proof.Machine
end

