-- ==== Sys2Proof/Laws/Exec.lean ====
section
/-! SUPPORT. `exec` over operand shapes: one equation per mnemonic that has several forms; and what every instruction
leaves alone. -/

namespace Sys2Proof.Machine

/-! ### The forms of a mnemonic -/

theorem exec_adcForm (r : Acc) (src : Src8) (s : State) : exec (adcForm r src) s = .next (opAdc r src s) := by
  cases r <;> rcases src with b | (b | w | b) <;> rfl
theorem exec_addForm (r : Acc) (src : Src8) (s : State) : exec (addForm r src) s = .next (opAdd r src s) := by
  cases r <;> rcases src with b | (b | w | b) <;> rfl
theorem exec_andForm (r : Acc) (src : Src8) (s : State) : exec (andForm r src) s = .next (opAnd r src s) := by
  cases r <;> rcases src with b | (b | w | b) <;> rfl
theorem exec_bitForm (r : Acc) (src : Src8) (s : State) : exec (bitForm r src) s = .next (opBit r src s) := by
  cases r <;> rcases src with b | (b | w | b) <;> rfl
theorem exec_cmpForm (r : Acc) (src : Src8) (s : State) : exec (cmpForm r src) s = .next (opCmp r src s) := by
  cases r <;> rcases src with b | (b | w | b) <;> rfl
theorem exec_eorForm (r : Acc) (src : Src8) (s : State) : exec (eorForm r src) s = .next (opEor r src s) := by
  cases r <;> rcases src with b | (b | w | b) <;> rfl
theorem exec_ldaForm (r : Acc) (src : Src8) (s : State) : exec (ldaForm r src) s = .next (opLda r src s) := by
  cases r <;> rcases src with b | (b | w | b) <;> rfl
theorem exec_oraForm (r : Acc) (src : Src8) (s : State) : exec (oraForm r src) s = .next (opOra r src s) := by
  cases r <;> rcases src with b | (b | w | b) <;> rfl
theorem exec_sbcForm (r : Acc) (src : Src8) (s : State) : exec (sbcForm r src) s = .next (opSbc r src s) := by
  cases r <;> rcases src with b | (b | w | b) <;> rfl
theorem exec_subForm (r : Acc) (src : Src8) (s : State) : exec (subForm r src) s = .next (opSub r src s) := by
  cases r <;> rcases src with b | (b | w | b) <;> rfl
theorem exec_staForm (r : Acc) (e : Ea) (s : State) : exec (staForm r e) s = .next (opSta r e s) := by
  cases r <;> cases e <;> rfl
theorem exec_aslForm (p : Place) (s : State) : exec (aslForm p) s = .next (modify p aslByte s) := by
  rcases p with (_ | _) | (w | b) <;> rfl
theorem exec_asrForm (p : Place) (s : State) : exec (asrForm p) s = .next (modify p asrByte s) := by
  rcases p with (_ | _) | (w | b) <;> rfl
theorem exec_comForm (p : Place) (s : State) : exec (comForm p) s = .next (modify p comByte s) := by
  rcases p with (_ | _) | (w | b) <;> rfl
theorem exec_decForm (p : Place) (s : State) : exec (decForm p) s = .next (modify p decByte s) := by
  rcases p with (_ | _) | (w | b) <;> rfl
theorem exec_incForm (p : Place) (s : State) : exec (incForm p) s = .next (modify p incByte s) := by
  rcases p with (_ | _) | (w | b) <;> rfl
theorem exec_lsrForm (p : Place) (s : State) : exec (lsrForm p) s = .next (modify p lsrByte s) := by
  rcases p with (_ | _) | (w | b) <;> rfl
theorem exec_negForm (p : Place) (s : State) : exec (negForm p) s = .next (modify p negByte s) := by
  rcases p with (_ | _) | (w | b) <;> rfl
theorem exec_rolForm (p : Place) (s : State) : exec (rolForm p) s = .next (modify p rolByte s) := by
  rcases p with (_ | _) | (w | b) <;> rfl
theorem exec_rorForm (p : Place) (s : State) : exec (rorForm p) s = .next (modify p rorByte s) := by
  rcases p with (_ | _) | (w | b) <;> rfl
theorem exec_clrForm (p : Place) (s : State) : exec (clrForm p) s = .next (opClr p s) := by
  rcases p with (_ | _) | (w | b) <;> rfl
theorem exec_tstForm (p : Place) (s : State) : exec (tstForm p) s = .next (opTst p s) := by
  rcases p with (_ | _) | (w | b) <;> rfl
theorem exec_pshForm (r : Acc) (s : State) : exec (pshForm r) s = .next (opPsh r s) := by
  cases r <;> rfl
theorem exec_pulForm (r : Acc) (s : State) : exec (pulForm r) s = .next (opPul r s) := by
  cases r <;> rfl
theorem exec_cpxForm (src : Src16) (s : State) : exec (cpxForm src) s = .next (opCpx src s) := by
  rcases src with w | (b | w | b) <;> rfl
theorem exec_ldsForm (src : Src16) (s : State) : exec (ldsForm src) s = .next (opLds src s) := by
  rcases src with w | (b | w | b) <;> rfl
theorem exec_ldxForm (src : Src16) (s : State) : exec (ldxForm src) s = .next (opLdx src s) := by
  rcases src with w | (b | w | b) <;> rfl
theorem exec_stsForm (e : Ea) (s : State) : exec (stsForm e) s = .next (opSts e s) := by
  cases e <;> rfl
theorem exec_stxForm (e : Ea) (s : State) : exec (stxForm e) s = .next (opStx e s) := by
  cases e <;> rfl
theorem exec_jmpForm (f : Far) (s : State) : exec (jmpForm f) s = .next ({ s with pc := s.farEa f }) := by
  cases f <;> rfl
theorem exec_jsrForm (f : Far) (s : State) : exec (jsrForm f) s = .next (callTo (s.farEa f) s) := by
  cases f <;> rfl

/-! ### The mnemonic of a form -/

@[simp] theorem mnemonicOf_adcForm (r : Acc) (src : Src8) : mnemonicOf (adcForm r src) = .adc := by
  cases r <;> rcases src with b | (b | w | b) <;> rfl
@[simp] theorem mnemonicOf_addForm (r : Acc) (src : Src8) : mnemonicOf (addForm r src) = .add := by
  cases r <;> rcases src with b | (b | w | b) <;> rfl
@[simp] theorem mnemonicOf_andForm (r : Acc) (src : Src8) : mnemonicOf (andForm r src) = .and := by
  cases r <;> rcases src with b | (b | w | b) <;> rfl
@[simp] theorem mnemonicOf_bitForm (r : Acc) (src : Src8) : mnemonicOf (bitForm r src) = .bit := by
  cases r <;> rcases src with b | (b | w | b) <;> rfl
@[simp] theorem mnemonicOf_cmpForm (r : Acc) (src : Src8) : mnemonicOf (cmpForm r src) = .cmp := by
  cases r <;> rcases src with b | (b | w | b) <;> rfl
@[simp] theorem mnemonicOf_eorForm (r : Acc) (src : Src8) : mnemonicOf (eorForm r src) = .eor := by
  cases r <;> rcases src with b | (b | w | b) <;> rfl
@[simp] theorem mnemonicOf_ldaForm (r : Acc) (src : Src8) : mnemonicOf (ldaForm r src) = .lda := by
  cases r <;> rcases src with b | (b | w | b) <;> rfl
@[simp] theorem mnemonicOf_oraForm (r : Acc) (src : Src8) : mnemonicOf (oraForm r src) = .ora := by
  cases r <;> rcases src with b | (b | w | b) <;> rfl
@[simp] theorem mnemonicOf_sbcForm (r : Acc) (src : Src8) : mnemonicOf (sbcForm r src) = .sbc := by
  cases r <;> rcases src with b | (b | w | b) <;> rfl
@[simp] theorem mnemonicOf_subForm (r : Acc) (src : Src8) : mnemonicOf (subForm r src) = .sub := by
  cases r <;> rcases src with b | (b | w | b) <;> rfl
@[simp] theorem mnemonicOf_staForm (r : Acc) (e : Ea) : mnemonicOf (staForm r e) = .sta := by
  cases r <;> cases e <;> rfl
@[simp] theorem mnemonicOf_aslForm (p : Place) : mnemonicOf (aslForm p) = .asl := by
  rcases p with (_ | _) | (w | b) <;> rfl
@[simp] theorem mnemonicOf_asrForm (p : Place) : mnemonicOf (asrForm p) = .asr := by
  rcases p with (_ | _) | (w | b) <;> rfl
@[simp] theorem mnemonicOf_comForm (p : Place) : mnemonicOf (comForm p) = .com := by
  rcases p with (_ | _) | (w | b) <;> rfl
@[simp] theorem mnemonicOf_decForm (p : Place) : mnemonicOf (decForm p) = .dec := by
  rcases p with (_ | _) | (w | b) <;> rfl
@[simp] theorem mnemonicOf_incForm (p : Place) : mnemonicOf (incForm p) = .inc := by
  rcases p with (_ | _) | (w | b) <;> rfl
@[simp] theorem mnemonicOf_lsrForm (p : Place) : mnemonicOf (lsrForm p) = .lsr := by
  rcases p with (_ | _) | (w | b) <;> rfl
@[simp] theorem mnemonicOf_negForm (p : Place) : mnemonicOf (negForm p) = .neg := by
  rcases p with (_ | _) | (w | b) <;> rfl
@[simp] theorem mnemonicOf_rolForm (p : Place) : mnemonicOf (rolForm p) = .rol := by
  rcases p with (_ | _) | (w | b) <;> rfl
@[simp] theorem mnemonicOf_rorForm (p : Place) : mnemonicOf (rorForm p) = .ror := by
  rcases p with (_ | _) | (w | b) <;> rfl
@[simp] theorem mnemonicOf_clrForm (p : Place) : mnemonicOf (clrForm p) = .clr := by
  rcases p with (_ | _) | (w | b) <;> rfl
@[simp] theorem mnemonicOf_tstForm (p : Place) : mnemonicOf (tstForm p) = .tst := by
  rcases p with (_ | _) | (w | b) <;> rfl
@[simp] theorem mnemonicOf_pshForm (r : Acc) : mnemonicOf (pshForm r) = .psh := by
  cases r <;> rfl
@[simp] theorem mnemonicOf_pulForm (r : Acc) : mnemonicOf (pulForm r) = .pul := by
  cases r <;> rfl
@[simp] theorem mnemonicOf_cpxForm (src : Src16) : mnemonicOf (cpxForm src) = .cpx := by
  rcases src with w | (b | w | b) <;> rfl
@[simp] theorem mnemonicOf_ldsForm (src : Src16) : mnemonicOf (ldsForm src) = .lds := by
  rcases src with w | (b | w | b) <;> rfl
@[simp] theorem mnemonicOf_ldxForm (src : Src16) : mnemonicOf (ldxForm src) = .ldx := by
  rcases src with w | (b | w | b) <;> rfl
@[simp] theorem mnemonicOf_stsForm (e : Ea) : mnemonicOf (stsForm e) = .sts := by
  cases e <;> rfl
@[simp] theorem mnemonicOf_stxForm (e : Ea) : mnemonicOf (stxForm e) = .stx := by
  cases e <;> rfl
@[simp] theorem mnemonicOf_jmpForm (f : Far) : mnemonicOf (jmpForm f) = .jmp := by
  cases f <;> rfl
@[simp] theorem mnemonicOf_jsrForm (f : Far) : mnemonicOf (jsrForm f) = .jsr := by
  cases f <;> rfl

/-! ### Case analysis by mnemonic -/

/-- What holds of every form of each of the 72 mnemonics holds of every instruction. -/
theorem instr_by_form {P : Instr → Prop}
    (adc : ∀ r src, P (adcForm r src)) (add : ∀ r src, P (addForm r src)) (and : ∀ r src, P (andForm r src))
    (bit : ∀ r src, P (bitForm r src)) (cmp : ∀ r src, P (cmpForm r src)) (eor : ∀ r src, P (eorForm r src))
    (lda : ∀ r src, P (ldaForm r src)) (ora : ∀ r src, P (oraForm r src)) (sbc : ∀ r src, P (sbcForm r src))
    (sub : ∀ r src, P (subForm r src)) (sta : ∀ r e, P (staForm r e)) (asl : ∀ p, P (aslForm p))
    (asr : ∀ p, P (asrForm p)) (clr : ∀ p, P (clrForm p)) (com : ∀ p, P (comForm p)) (dec : ∀ p, P (decForm p))
    (inc : ∀ p, P (incForm p)) (lsr : ∀ p, P (lsrForm p)) (neg : ∀ p, P (negForm p)) (rol : ∀ p, P (rolForm p))
    (ror : ∀ p, P (rorForm p)) (tst : ∀ p, P (tstForm p)) (aba : P .aba) (cba : P .cba) (sba : P .sba) (tab : P .tab)
    (tba : P .tba) (daa : P .daa) (psh : ∀ r, P (pshForm r)) (pul : ∀ r, P (pulForm r)) (cpx : ∀ src, P (cpxForm src))
    (lds : ∀ src, P (ldsForm src)) (ldx : ∀ src, P (ldxForm src)) (sts : ∀ e, P (stsForm e))
    (stx : ∀ e, P (stxForm e)) (des : P .des) (dex : P .dex) (ins : P .ins) (inx : P .inx) (tsx : P .tsx)
    (txs : P .txs) (bra : ∀ rel, P (.bra rel)) (bcc : ∀ rel, P (.bcc rel)) (bcs : ∀ rel, P (.bcs rel))
    (beq : ∀ rel, P (.beq rel)) (bge : ∀ rel, P (.bge rel)) (bgt : ∀ rel, P (.bgt rel)) (bhi : ∀ rel, P (.bhi rel))
    (ble : ∀ rel, P (.ble rel)) (bls : ∀ rel, P (.bls rel)) (blt : ∀ rel, P (.blt rel)) (bmi : ∀ rel, P (.bmi rel))
    (bne : ∀ rel, P (.bne rel)) (bpl : ∀ rel, P (.bpl rel)) (bvc : ∀ rel, P (.bvc rel)) (bvs : ∀ rel, P (.bvs rel))
    (bsr : ∀ rel, P (.bsr rel)) (jmp : ∀ f, P (jmpForm f)) (jsr : ∀ f, P (jsrForm f)) (rts : P .rts) (clc : P .clc)
    (cli : P .cli) (clv : P .clv) (sec : P .sec) (sei : P .sei) (sev : P .sev) (tap : P .tap) (tpa : P .tpa)
    (nop : P .nop) (swi : P .swi) (wai : P .wai) (rti : P .rti)
    (i : Instr) : P i :=
  match i with
  | .adcAImm imm => adc .a (.imm imm)
  | .adcADir addr => adc .a (.mem (.dir addr))
  | .adcAInd offset => adc .a (.mem (.ind offset))
  | .adcAExt addr => adc .a (.mem (.ext addr))
  | .adcBImm imm => adc .b (.imm imm)
  | .adcBDir addr => adc .b (.mem (.dir addr))
  | .adcBInd offset => adc .b (.mem (.ind offset))
  | .adcBExt addr => adc .b (.mem (.ext addr))
  | .addAImm imm => add .a (.imm imm)
  | .addADir addr => add .a (.mem (.dir addr))
  | .addAInd offset => add .a (.mem (.ind offset))
  | .addAExt addr => add .a (.mem (.ext addr))
  | .addBImm imm => add .b (.imm imm)
  | .addBDir addr => add .b (.mem (.dir addr))
  | .addBInd offset => add .b (.mem (.ind offset))
  | .addBExt addr => add .b (.mem (.ext addr))
  | .andAImm imm => and .a (.imm imm)
  | .andADir addr => and .a (.mem (.dir addr))
  | .andAInd offset => and .a (.mem (.ind offset))
  | .andAExt addr => and .a (.mem (.ext addr))
  | .andBImm imm => and .b (.imm imm)
  | .andBDir addr => and .b (.mem (.dir addr))
  | .andBInd offset => and .b (.mem (.ind offset))
  | .andBExt addr => and .b (.mem (.ext addr))
  | .bitAImm imm => bit .a (.imm imm)
  | .bitADir addr => bit .a (.mem (.dir addr))
  | .bitAInd offset => bit .a (.mem (.ind offset))
  | .bitAExt addr => bit .a (.mem (.ext addr))
  | .bitBImm imm => bit .b (.imm imm)
  | .bitBDir addr => bit .b (.mem (.dir addr))
  | .bitBInd offset => bit .b (.mem (.ind offset))
  | .bitBExt addr => bit .b (.mem (.ext addr))
  | .cmpAImm imm => cmp .a (.imm imm)
  | .cmpADir addr => cmp .a (.mem (.dir addr))
  | .cmpAInd offset => cmp .a (.mem (.ind offset))
  | .cmpAExt addr => cmp .a (.mem (.ext addr))
  | .cmpBImm imm => cmp .b (.imm imm)
  | .cmpBDir addr => cmp .b (.mem (.dir addr))
  | .cmpBInd offset => cmp .b (.mem (.ind offset))
  | .cmpBExt addr => cmp .b (.mem (.ext addr))
  | .eorAImm imm => eor .a (.imm imm)
  | .eorADir addr => eor .a (.mem (.dir addr))
  | .eorAInd offset => eor .a (.mem (.ind offset))
  | .eorAExt addr => eor .a (.mem (.ext addr))
  | .eorBImm imm => eor .b (.imm imm)
  | .eorBDir addr => eor .b (.mem (.dir addr))
  | .eorBInd offset => eor .b (.mem (.ind offset))
  | .eorBExt addr => eor .b (.mem (.ext addr))
  | .ldaAImm imm => lda .a (.imm imm)
  | .ldaADir addr => lda .a (.mem (.dir addr))
  | .ldaAInd offset => lda .a (.mem (.ind offset))
  | .ldaAExt addr => lda .a (.mem (.ext addr))
  | .ldaBImm imm => lda .b (.imm imm)
  | .ldaBDir addr => lda .b (.mem (.dir addr))
  | .ldaBInd offset => lda .b (.mem (.ind offset))
  | .ldaBExt addr => lda .b (.mem (.ext addr))
  | .oraAImm imm => ora .a (.imm imm)
  | .oraADir addr => ora .a (.mem (.dir addr))
  | .oraAInd offset => ora .a (.mem (.ind offset))
  | .oraAExt addr => ora .a (.mem (.ext addr))
  | .oraBImm imm => ora .b (.imm imm)
  | .oraBDir addr => ora .b (.mem (.dir addr))
  | .oraBInd offset => ora .b (.mem (.ind offset))
  | .oraBExt addr => ora .b (.mem (.ext addr))
  | .sbcAImm imm => sbc .a (.imm imm)
  | .sbcADir addr => sbc .a (.mem (.dir addr))
  | .sbcAInd offset => sbc .a (.mem (.ind offset))
  | .sbcAExt addr => sbc .a (.mem (.ext addr))
  | .sbcBImm imm => sbc .b (.imm imm)
  | .sbcBDir addr => sbc .b (.mem (.dir addr))
  | .sbcBInd offset => sbc .b (.mem (.ind offset))
  | .sbcBExt addr => sbc .b (.mem (.ext addr))
  | .subAImm imm => sub .a (.imm imm)
  | .subADir addr => sub .a (.mem (.dir addr))
  | .subAInd offset => sub .a (.mem (.ind offset))
  | .subAExt addr => sub .a (.mem (.ext addr))
  | .subBImm imm => sub .b (.imm imm)
  | .subBDir addr => sub .b (.mem (.dir addr))
  | .subBInd offset => sub .b (.mem (.ind offset))
  | .subBExt addr => sub .b (.mem (.ext addr))
  | .staADir addr => sta .a (.dir addr)
  | .staAInd offset => sta .a (.ind offset)
  | .staAExt addr => sta .a (.ext addr)
  | .staBDir addr => sta .b (.dir addr)
  | .staBInd offset => sta .b (.ind offset)
  | .staBExt addr => sta .b (.ext addr)
  | .aslA => asl (.acc .a)
  | .aslB => asl (.acc .b)
  | .aslInd offset => asl (.mem (.ind offset))
  | .aslExt addr => asl (.mem (.ext addr))
  | .asrA => asr (.acc .a)
  | .asrB => asr (.acc .b)
  | .asrInd offset => asr (.mem (.ind offset))
  | .asrExt addr => asr (.mem (.ext addr))
  | .clrA => clr (.acc .a)
  | .clrB => clr (.acc .b)
  | .clrInd offset => clr (.mem (.ind offset))
  | .clrExt addr => clr (.mem (.ext addr))
  | .comA => com (.acc .a)
  | .comB => com (.acc .b)
  | .comInd offset => com (.mem (.ind offset))
  | .comExt addr => com (.mem (.ext addr))
  | .decA => dec (.acc .a)
  | .decB => dec (.acc .b)
  | .decInd offset => dec (.mem (.ind offset))
  | .decExt addr => dec (.mem (.ext addr))
  | .incA => inc (.acc .a)
  | .incB => inc (.acc .b)
  | .incInd offset => inc (.mem (.ind offset))
  | .incExt addr => inc (.mem (.ext addr))
  | .lsrA => lsr (.acc .a)
  | .lsrB => lsr (.acc .b)
  | .lsrInd offset => lsr (.mem (.ind offset))
  | .lsrExt addr => lsr (.mem (.ext addr))
  | .negA => neg (.acc .a)
  | .negB => neg (.acc .b)
  | .negInd offset => neg (.mem (.ind offset))
  | .negExt addr => neg (.mem (.ext addr))
  | .rolA => rol (.acc .a)
  | .rolB => rol (.acc .b)
  | .rolInd offset => rol (.mem (.ind offset))
  | .rolExt addr => rol (.mem (.ext addr))
  | .rorA => ror (.acc .a)
  | .rorB => ror (.acc .b)
  | .rorInd offset => ror (.mem (.ind offset))
  | .rorExt addr => ror (.mem (.ext addr))
  | .tstA => tst (.acc .a)
  | .tstB => tst (.acc .b)
  | .tstInd offset => tst (.mem (.ind offset))
  | .tstExt addr => tst (.mem (.ext addr))
  | .aba => aba
  | .cba => cba
  | .sba => sba
  | .tab => tab
  | .tba => tba
  | .daa => daa
  | .pshA => psh .a
  | .pshB => psh .b
  | .pulA => pul .a
  | .pulB => pul .b
  | .cpxImm imm => cpx (.imm imm)
  | .cpxDir addr => cpx (.mem (.dir addr))
  | .cpxInd offset => cpx (.mem (.ind offset))
  | .cpxExt addr => cpx (.mem (.ext addr))
  | .ldsImm imm => lds (.imm imm)
  | .ldsDir addr => lds (.mem (.dir addr))
  | .ldsInd offset => lds (.mem (.ind offset))
  | .ldsExt addr => lds (.mem (.ext addr))
  | .ldxImm imm => ldx (.imm imm)
  | .ldxDir addr => ldx (.mem (.dir addr))
  | .ldxInd offset => ldx (.mem (.ind offset))
  | .ldxExt addr => ldx (.mem (.ext addr))
  | .stsDir addr => sts (.dir addr)
  | .stsInd offset => sts (.ind offset)
  | .stsExt addr => sts (.ext addr)
  | .stxDir addr => stx (.dir addr)
  | .stxInd offset => stx (.ind offset)
  | .stxExt addr => stx (.ext addr)
  | .des => des
  | .dex => dex
  | .ins => ins
  | .inx => inx
  | .tsx => tsx
  | .txs => txs
  | .bra rel => bra rel
  | .bcc rel => bcc rel
  | .bcs rel => bcs rel
  | .beq rel => beq rel
  | .bge rel => bge rel
  | .bgt rel => bgt rel
  | .bhi rel => bhi rel
  | .ble rel => ble rel
  | .bls rel => bls rel
  | .blt rel => blt rel
  | .bmi rel => bmi rel
  | .bne rel => bne rel
  | .bpl rel => bpl rel
  | .bvc rel => bvc rel
  | .bvs rel => bvs rel
  | .bsr rel => bsr rel
  | .jmpInd offset => jmp (.ind offset)
  | .jmpExt addr => jmp (.ext addr)
  | .jsrInd offset => jsr (.ind offset)
  | .jsrExt addr => jsr (.ext addr)
  | .rts => rts
  | .clc => clc
  | .cli => cli
  | .clv => clv
  | .sec => sec
  | .sei => sei
  | .sev => sev
  | .tap => tap
  | .tpa => tpa
  | .nop => nop
  | .swi => swi
  | .wai => wai
  | .rti => rti

/-! ### What every instruction leaves alone -/

/-- The map, the input, the counters; and memory but for the byte writes `l`. -/
structure Effect (s t : State) (l : List (Word × Byte)) : Prop where
  map : t.map = s.map
  irqLine : t.irqLine = s.irqLine
  tick : t.tick = s.tick
  cycles : t.cycles = s.cycles
  mem : t.mem = (s.writeBytes l).mem

/-- It gives a next state, with writes at the addresses of its access list (20_memory.md R55). -/
def HasEffect (i : Instr) (s : State) : Prop :=
  ∃ t l, exec i s = .next t ∧ Effect s t l ∧ l.map Prod.fst = writtenAddresses i s

theorem effect_adcForm (r : Acc) (src : Src8) (s : State) : HasEffect (adcForm r src) s := by
  refine ⟨_, [], exec_adcForm r src s, ?_, ?_⟩
  · cases r <;> exact ⟨rfl, rfl, rfl, rfl, rfl⟩
  · cases r <;> rcases src with b | (b | w | b) <;> rfl
theorem effect_addForm (r : Acc) (src : Src8) (s : State) : HasEffect (addForm r src) s := by
  refine ⟨_, [], exec_addForm r src s, ?_, ?_⟩
  · cases r <;> exact ⟨rfl, rfl, rfl, rfl, rfl⟩
  · cases r <;> rcases src with b | (b | w | b) <;> rfl
theorem effect_andForm (r : Acc) (src : Src8) (s : State) : HasEffect (andForm r src) s := by
  refine ⟨_, [], exec_andForm r src s, ?_, ?_⟩
  · cases r <;> exact ⟨rfl, rfl, rfl, rfl, rfl⟩
  · cases r <;> rcases src with b | (b | w | b) <;> rfl
theorem effect_bitForm (r : Acc) (src : Src8) (s : State) : HasEffect (bitForm r src) s := by
  refine ⟨_, [], exec_bitForm r src s, ?_, ?_⟩
  · cases r <;> exact ⟨rfl, rfl, rfl, rfl, rfl⟩
  · cases r <;> rcases src with b | (b | w | b) <;> rfl
theorem effect_cmpForm (r : Acc) (src : Src8) (s : State) : HasEffect (cmpForm r src) s := by
  refine ⟨_, [], exec_cmpForm r src s, ?_, ?_⟩
  · cases r <;> exact ⟨rfl, rfl, rfl, rfl, rfl⟩
  · cases r <;> rcases src with b | (b | w | b) <;> rfl
theorem effect_eorForm (r : Acc) (src : Src8) (s : State) : HasEffect (eorForm r src) s := by
  refine ⟨_, [], exec_eorForm r src s, ?_, ?_⟩
  · cases r <;> exact ⟨rfl, rfl, rfl, rfl, rfl⟩
  · cases r <;> rcases src with b | (b | w | b) <;> rfl
theorem effect_ldaForm (r : Acc) (src : Src8) (s : State) : HasEffect (ldaForm r src) s := by
  refine ⟨_, [], exec_ldaForm r src s, ?_, ?_⟩
  · cases r <;> exact ⟨rfl, rfl, rfl, rfl, rfl⟩
  · cases r <;> rcases src with b | (b | w | b) <;> rfl
theorem effect_oraForm (r : Acc) (src : Src8) (s : State) : HasEffect (oraForm r src) s := by
  refine ⟨_, [], exec_oraForm r src s, ?_, ?_⟩
  · cases r <;> exact ⟨rfl, rfl, rfl, rfl, rfl⟩
  · cases r <;> rcases src with b | (b | w | b) <;> rfl
theorem effect_sbcForm (r : Acc) (src : Src8) (s : State) : HasEffect (sbcForm r src) s := by
  refine ⟨_, [], exec_sbcForm r src s, ?_, ?_⟩
  · cases r <;> exact ⟨rfl, rfl, rfl, rfl, rfl⟩
  · cases r <;> rcases src with b | (b | w | b) <;> rfl
theorem effect_subForm (r : Acc) (src : Src8) (s : State) : HasEffect (subForm r src) s := by
  refine ⟨_, [], exec_subForm r src s, ?_, ?_⟩
  · cases r <;> exact ⟨rfl, rfl, rfl, rfl, rfl⟩
  · cases r <;> rcases src with b | (b | w | b) <;> rfl
theorem effect_staForm (r : Acc) (e : Ea) (s : State) : HasEffect (staForm r e) s := by
  refine ⟨_, [(s.ea e, s.acc r)], exec_staForm r e s, ⟨rfl, rfl, rfl, rfl, rfl⟩, ?_⟩
  cases r <;> cases e <;> rfl
/-- The nine operations that read, operate and write back. -/
theorem effect_modify (p : Place) (f : Byte → CC → Byte × CC) (s : State) :
    Effect s (modify p f s) (match p with | .acc _ => [] | .mem a => [(s.farEa a, (f (s.readPlace p) s.cc).1)]) := by
  rcases p with (_ | _) | a <;> exact ⟨rfl, rfl, rfl, rfl, rfl⟩
theorem effect_aslForm (p : Place) (s : State) : HasEffect (aslForm p) s := by
  refine ⟨_, _, exec_aslForm p s, effect_modify p aslByte s, ?_⟩
  rcases p with (_ | _) | (w | b) <;> rfl
theorem effect_asrForm (p : Place) (s : State) : HasEffect (asrForm p) s := by
  refine ⟨_, _, exec_asrForm p s, effect_modify p asrByte s, ?_⟩
  rcases p with (_ | _) | (w | b) <;> rfl
theorem effect_comForm (p : Place) (s : State) : HasEffect (comForm p) s := by
  refine ⟨_, _, exec_comForm p s, effect_modify p comByte s, ?_⟩
  rcases p with (_ | _) | (w | b) <;> rfl
theorem effect_decForm (p : Place) (s : State) : HasEffect (decForm p) s := by
  refine ⟨_, _, exec_decForm p s, effect_modify p decByte s, ?_⟩
  rcases p with (_ | _) | (w | b) <;> rfl
theorem effect_incForm (p : Place) (s : State) : HasEffect (incForm p) s := by
  refine ⟨_, _, exec_incForm p s, effect_modify p incByte s, ?_⟩
  rcases p with (_ | _) | (w | b) <;> rfl
theorem effect_lsrForm (p : Place) (s : State) : HasEffect (lsrForm p) s := by
  refine ⟨_, _, exec_lsrForm p s, effect_modify p lsrByte s, ?_⟩
  rcases p with (_ | _) | (w | b) <;> rfl
theorem effect_negForm (p : Place) (s : State) : HasEffect (negForm p) s := by
  refine ⟨_, _, exec_negForm p s, effect_modify p negByte s, ?_⟩
  rcases p with (_ | _) | (w | b) <;> rfl
theorem effect_rolForm (p : Place) (s : State) : HasEffect (rolForm p) s := by
  refine ⟨_, _, exec_rolForm p s, effect_modify p rolByte s, ?_⟩
  rcases p with (_ | _) | (w | b) <;> rfl
theorem effect_rorForm (p : Place) (s : State) : HasEffect (rorForm p) s := by
  refine ⟨_, _, exec_rorForm p s, effect_modify p rorByte s, ?_⟩
  rcases p with (_ | _) | (w | b) <;> rfl
theorem effect_clrForm (p : Place) (s : State) : HasEffect (clrForm p) s := by
  refine ⟨_, match p with | .acc _ => [] | .mem a => [(s.farEa a, 0x00)], exec_clrForm p s, ?_, ?_⟩
  · rcases p with (_ | _) | a <;> exact ⟨rfl, rfl, rfl, rfl, rfl⟩
  · rcases p with (_ | _) | (w | b) <;> rfl
theorem effect_tstForm (p : Place) (s : State) : HasEffect (tstForm p) s := by
  refine ⟨_, [], exec_tstForm p s, ⟨rfl, rfl, rfl, rfl, rfl⟩, ?_⟩
  rcases p with (_ | _) | (w | b) <;> rfl
theorem effect_pshForm (r : Acc) (s : State) : HasEffect (pshForm r) s := by
  refine ⟨_, [(s.sp, s.acc r)], exec_pshForm r s, ⟨rfl, rfl, rfl, rfl, rfl⟩, ?_⟩
  cases r <;> rfl
theorem effect_pulForm (r : Acc) (s : State) : HasEffect (pulForm r) s := by
  refine ⟨_, [], exec_pulForm r s, ?_, ?_⟩
  · cases r <;> exact ⟨rfl, rfl, rfl, rfl, rfl⟩
  · cases r <;> rfl
theorem effect_cpxForm (src : Src16) (s : State) : HasEffect (cpxForm src) s := by
  refine ⟨_, [], exec_cpxForm src s, ⟨rfl, rfl, rfl, rfl, rfl⟩, ?_⟩
  rcases src with w | (b | w | b) <;> rfl
theorem effect_ldsForm (src : Src16) (s : State) : HasEffect (ldsForm src) s := by
  refine ⟨_, [], exec_ldsForm src s, ⟨rfl, rfl, rfl, rfl, rfl⟩, ?_⟩
  rcases src with w | (b | w | b) <;> rfl
theorem effect_ldxForm (src : Src16) (s : State) : HasEffect (ldxForm src) s := by
  refine ⟨_, [], exec_ldxForm src s, ⟨rfl, rfl, rfl, rfl, rfl⟩, ?_⟩
  rcases src with w | (b | w | b) <;> rfl
theorem effect_stsForm (e : Ea) (s : State) : HasEffect (stsForm e) s := by
  refine ⟨_, [(s.ea e, hi8 s.sp), (s.ea e + 1, lo8 s.sp)], exec_stsForm e s, ⟨rfl, rfl, rfl, rfl, rfl⟩, ?_⟩
  cases e <;> rfl
theorem effect_stxForm (e : Ea) (s : State) : HasEffect (stxForm e) s := by
  refine ⟨_, [(s.ea e, hi8 s.ix), (s.ea e + 1, lo8 s.ix)], exec_stxForm e s, ⟨rfl, rfl, rfl, rfl, rfl⟩, ?_⟩
  cases e <;> rfl
theorem effect_jmpForm (f : Far) (s : State) : HasEffect (jmpForm f) s := by
  refine ⟨_, [], exec_jmpForm f s, ⟨rfl, rfl, rfl, rfl, rfl⟩, ?_⟩
  cases f <;> rfl
theorem effect_jsrForm (f : Far) (s : State) : HasEffect (jsrForm f) s := by
  refine ⟨_, [(s.sp, lo8 s.pc), (s.sp - 1, hi8 s.pc)], exec_jsrForm f s, ⟨rfl, rfl, rfl, rfl, rfl⟩, ?_⟩
  cases f <;> rfl
/-- The plain branches. -/
theorem effect_branchIf (c : Bool) (rel : Byte) (s : State) : Effect s (branchIf c rel s) [] := by
  cases c <;> exact ⟨rfl, rfl, rfl, rfl, rfl⟩
theorem effect_daa (s : State) : HasEffect .daa s := by
  refine ⟨_, [], rfl, ?_, rfl⟩
  unfold opDaa; split <;> exact ⟨rfl, rfl, rfl, rfl, rfl⟩
theorem effect_swi (s : State) : HasEffect .swi s := by
  refine ⟨_, s.frame, rfl, ?_, rfl⟩
  constructor <;> simp [State.takeInterrupt_eq]
theorem effect_wai (s : State) : HasEffect .wai s := by
  refine ⟨_, s.frame, rfl, ?_, rfl⟩
  constructor <;> simp [State.pushFrame_eq]
theorem effect_rti (s : State) : HasEffect .rti s := by
  refine ⟨_, [], rfl, ?_, rfl⟩
  constructor <;> simp [State.writeBytes]

/-- Every instruction gives a next state that differs from the state before in registers, condition codes, the waiting
state, and in memory at the addresses it lists as written. -/
theorem exec_effect (i : Instr) (s : State) : HasEffect i s := by
  apply instr_by_form (P := fun i => HasEffect i s)
  case adc => exact fun r e => effect_adcForm r e s
  case add => exact fun r e => effect_addForm r e s
  case and => exact fun r e => effect_andForm r e s
  case bit => exact fun r e => effect_bitForm r e s
  case cmp => exact fun r e => effect_cmpForm r e s
  case eor => exact fun r e => effect_eorForm r e s
  case lda => exact fun r e => effect_ldaForm r e s
  case ora => exact fun r e => effect_oraForm r e s
  case sbc => exact fun r e => effect_sbcForm r e s
  case sub => exact fun r e => effect_subForm r e s
  case sta => exact fun r e => effect_staForm r e s
  case asl => exact fun p => effect_aslForm p s
  case asr => exact fun p => effect_asrForm p s
  case clr => exact fun p => effect_clrForm p s
  case com => exact fun p => effect_comForm p s
  case dec => exact fun p => effect_decForm p s
  case inc => exact fun p => effect_incForm p s
  case lsr => exact fun p => effect_lsrForm p s
  case neg => exact fun p => effect_negForm p s
  case rol => exact fun p => effect_rolForm p s
  case ror => exact fun p => effect_rorForm p s
  case tst => exact fun p => effect_tstForm p s
  case daa => exact effect_daa s
  case psh => exact fun p => effect_pshForm p s
  case pul => exact fun p => effect_pulForm p s
  case cpx => exact fun p => effect_cpxForm p s
  case lds => exact fun p => effect_ldsForm p s
  case ldx => exact fun p => effect_ldxForm p s
  case sts => exact fun p => effect_stsForm p s
  case stx => exact fun p => effect_stxForm p s
  case jmp => exact fun p => effect_jmpForm p s
  case jsr => exact fun p => effect_jsrForm p s
  case swi => exact effect_swi s
  case wai => exact effect_wai s
  case rti => exact effect_rti s
  case bsr => exact fun _ => ⟨_, [(s.sp, lo8 s.pc), (s.sp - 1, hi8 s.pc)], rfl, ⟨rfl, rfl, rfl, rfl, rfl⟩, rfl⟩
  all_goals first | exact ⟨_, [], rfl, ⟨rfl, rfl, rfl, rfl, rfl⟩, rfl⟩ | exact fun rel => ⟨_, [], rfl, effect_branchIf _ rel s, rfl⟩

end Sys2Proof.Machine
end

