-- ==== Sys2Proof/Laws/PerInstr.lean ====
section
/-! SUPPORT. What holds of every instruction as syntax, one lemma per constructor. -/

namespace Sys2Proof.Laws

/-- Its encoding is exactly one instruction: an assigned first byte (30_encoding.md R91) and the length that the first
byte fixes (R92). -/
def EncodesWellFormedCode.Statement (i : Instr) : Prop := wellFormedCode (encode i) = true

theorem EncodesWellFormedCode.adcAImm (imm : Byte) : EncodesWellFormedCode.Statement (.adcAImm imm) := rfl
theorem EncodesWellFormedCode.adcADir (addr : Byte) : EncodesWellFormedCode.Statement (.adcADir addr) := rfl
theorem EncodesWellFormedCode.adcAInd (offset : Byte) : EncodesWellFormedCode.Statement (.adcAInd offset) := rfl
theorem EncodesWellFormedCode.adcAExt (addr : Word) : EncodesWellFormedCode.Statement (.adcAExt addr) := rfl
theorem EncodesWellFormedCode.adcBImm (imm : Byte) : EncodesWellFormedCode.Statement (.adcBImm imm) := rfl
theorem EncodesWellFormedCode.adcBDir (addr : Byte) : EncodesWellFormedCode.Statement (.adcBDir addr) := rfl
theorem EncodesWellFormedCode.adcBInd (offset : Byte) : EncodesWellFormedCode.Statement (.adcBInd offset) := rfl
theorem EncodesWellFormedCode.adcBExt (addr : Word) : EncodesWellFormedCode.Statement (.adcBExt addr) := rfl
theorem EncodesWellFormedCode.addAImm (imm : Byte) : EncodesWellFormedCode.Statement (.addAImm imm) := rfl
theorem EncodesWellFormedCode.addADir (addr : Byte) : EncodesWellFormedCode.Statement (.addADir addr) := rfl
theorem EncodesWellFormedCode.addAInd (offset : Byte) : EncodesWellFormedCode.Statement (.addAInd offset) := rfl
theorem EncodesWellFormedCode.addAExt (addr : Word) : EncodesWellFormedCode.Statement (.addAExt addr) := rfl
theorem EncodesWellFormedCode.addBImm (imm : Byte) : EncodesWellFormedCode.Statement (.addBImm imm) := rfl
theorem EncodesWellFormedCode.addBDir (addr : Byte) : EncodesWellFormedCode.Statement (.addBDir addr) := rfl
theorem EncodesWellFormedCode.addBInd (offset : Byte) : EncodesWellFormedCode.Statement (.addBInd offset) := rfl
theorem EncodesWellFormedCode.addBExt (addr : Word) : EncodesWellFormedCode.Statement (.addBExt addr) := rfl
theorem EncodesWellFormedCode.andAImm (imm : Byte) : EncodesWellFormedCode.Statement (.andAImm imm) := rfl
theorem EncodesWellFormedCode.andADir (addr : Byte) : EncodesWellFormedCode.Statement (.andADir addr) := rfl
theorem EncodesWellFormedCode.andAInd (offset : Byte) : EncodesWellFormedCode.Statement (.andAInd offset) := rfl
theorem EncodesWellFormedCode.andAExt (addr : Word) : EncodesWellFormedCode.Statement (.andAExt addr) := rfl
theorem EncodesWellFormedCode.andBImm (imm : Byte) : EncodesWellFormedCode.Statement (.andBImm imm) := rfl
theorem EncodesWellFormedCode.andBDir (addr : Byte) : EncodesWellFormedCode.Statement (.andBDir addr) := rfl
theorem EncodesWellFormedCode.andBInd (offset : Byte) : EncodesWellFormedCode.Statement (.andBInd offset) := rfl
theorem EncodesWellFormedCode.andBExt (addr : Word) : EncodesWellFormedCode.Statement (.andBExt addr) := rfl
theorem EncodesWellFormedCode.bitAImm (imm : Byte) : EncodesWellFormedCode.Statement (.bitAImm imm) := rfl
theorem EncodesWellFormedCode.bitADir (addr : Byte) : EncodesWellFormedCode.Statement (.bitADir addr) := rfl
theorem EncodesWellFormedCode.bitAInd (offset : Byte) : EncodesWellFormedCode.Statement (.bitAInd offset) := rfl
theorem EncodesWellFormedCode.bitAExt (addr : Word) : EncodesWellFormedCode.Statement (.bitAExt addr) := rfl
theorem EncodesWellFormedCode.bitBImm (imm : Byte) : EncodesWellFormedCode.Statement (.bitBImm imm) := rfl
theorem EncodesWellFormedCode.bitBDir (addr : Byte) : EncodesWellFormedCode.Statement (.bitBDir addr) := rfl
theorem EncodesWellFormedCode.bitBInd (offset : Byte) : EncodesWellFormedCode.Statement (.bitBInd offset) := rfl
theorem EncodesWellFormedCode.bitBExt (addr : Word) : EncodesWellFormedCode.Statement (.bitBExt addr) := rfl
theorem EncodesWellFormedCode.cmpAImm (imm : Byte) : EncodesWellFormedCode.Statement (.cmpAImm imm) := rfl
theorem EncodesWellFormedCode.cmpADir (addr : Byte) : EncodesWellFormedCode.Statement (.cmpADir addr) := rfl
theorem EncodesWellFormedCode.cmpAInd (offset : Byte) : EncodesWellFormedCode.Statement (.cmpAInd offset) := rfl
theorem EncodesWellFormedCode.cmpAExt (addr : Word) : EncodesWellFormedCode.Statement (.cmpAExt addr) := rfl
theorem EncodesWellFormedCode.cmpBImm (imm : Byte) : EncodesWellFormedCode.Statement (.cmpBImm imm) := rfl
theorem EncodesWellFormedCode.cmpBDir (addr : Byte) : EncodesWellFormedCode.Statement (.cmpBDir addr) := rfl
theorem EncodesWellFormedCode.cmpBInd (offset : Byte) : EncodesWellFormedCode.Statement (.cmpBInd offset) := rfl
theorem EncodesWellFormedCode.cmpBExt (addr : Word) : EncodesWellFormedCode.Statement (.cmpBExt addr) := rfl
theorem EncodesWellFormedCode.eorAImm (imm : Byte) : EncodesWellFormedCode.Statement (.eorAImm imm) := rfl
theorem EncodesWellFormedCode.eorADir (addr : Byte) : EncodesWellFormedCode.Statement (.eorADir addr) := rfl
theorem EncodesWellFormedCode.eorAInd (offset : Byte) : EncodesWellFormedCode.Statement (.eorAInd offset) := rfl
theorem EncodesWellFormedCode.eorAExt (addr : Word) : EncodesWellFormedCode.Statement (.eorAExt addr) := rfl
theorem EncodesWellFormedCode.eorBImm (imm : Byte) : EncodesWellFormedCode.Statement (.eorBImm imm) := rfl
theorem EncodesWellFormedCode.eorBDir (addr : Byte) : EncodesWellFormedCode.Statement (.eorBDir addr) := rfl
theorem EncodesWellFormedCode.eorBInd (offset : Byte) : EncodesWellFormedCode.Statement (.eorBInd offset) := rfl
theorem EncodesWellFormedCode.eorBExt (addr : Word) : EncodesWellFormedCode.Statement (.eorBExt addr) := rfl
theorem EncodesWellFormedCode.ldaAImm (imm : Byte) : EncodesWellFormedCode.Statement (.ldaAImm imm) := rfl
theorem EncodesWellFormedCode.ldaADir (addr : Byte) : EncodesWellFormedCode.Statement (.ldaADir addr) := rfl
theorem EncodesWellFormedCode.ldaAInd (offset : Byte) : EncodesWellFormedCode.Statement (.ldaAInd offset) := rfl
theorem EncodesWellFormedCode.ldaAExt (addr : Word) : EncodesWellFormedCode.Statement (.ldaAExt addr) := rfl
theorem EncodesWellFormedCode.ldaBImm (imm : Byte) : EncodesWellFormedCode.Statement (.ldaBImm imm) := rfl
theorem EncodesWellFormedCode.ldaBDir (addr : Byte) : EncodesWellFormedCode.Statement (.ldaBDir addr) := rfl
theorem EncodesWellFormedCode.ldaBInd (offset : Byte) : EncodesWellFormedCode.Statement (.ldaBInd offset) := rfl
theorem EncodesWellFormedCode.ldaBExt (addr : Word) : EncodesWellFormedCode.Statement (.ldaBExt addr) := rfl
theorem EncodesWellFormedCode.oraAImm (imm : Byte) : EncodesWellFormedCode.Statement (.oraAImm imm) := rfl
theorem EncodesWellFormedCode.oraADir (addr : Byte) : EncodesWellFormedCode.Statement (.oraADir addr) := rfl
theorem EncodesWellFormedCode.oraAInd (offset : Byte) : EncodesWellFormedCode.Statement (.oraAInd offset) := rfl
theorem EncodesWellFormedCode.oraAExt (addr : Word) : EncodesWellFormedCode.Statement (.oraAExt addr) := rfl
theorem EncodesWellFormedCode.oraBImm (imm : Byte) : EncodesWellFormedCode.Statement (.oraBImm imm) := rfl
theorem EncodesWellFormedCode.oraBDir (addr : Byte) : EncodesWellFormedCode.Statement (.oraBDir addr) := rfl
theorem EncodesWellFormedCode.oraBInd (offset : Byte) : EncodesWellFormedCode.Statement (.oraBInd offset) := rfl
theorem EncodesWellFormedCode.oraBExt (addr : Word) : EncodesWellFormedCode.Statement (.oraBExt addr) := rfl
theorem EncodesWellFormedCode.sbcAImm (imm : Byte) : EncodesWellFormedCode.Statement (.sbcAImm imm) := rfl
theorem EncodesWellFormedCode.sbcADir (addr : Byte) : EncodesWellFormedCode.Statement (.sbcADir addr) := rfl
theorem EncodesWellFormedCode.sbcAInd (offset : Byte) : EncodesWellFormedCode.Statement (.sbcAInd offset) := rfl
theorem EncodesWellFormedCode.sbcAExt (addr : Word) : EncodesWellFormedCode.Statement (.sbcAExt addr) := rfl
theorem EncodesWellFormedCode.sbcBImm (imm : Byte) : EncodesWellFormedCode.Statement (.sbcBImm imm) := rfl
theorem EncodesWellFormedCode.sbcBDir (addr : Byte) : EncodesWellFormedCode.Statement (.sbcBDir addr) := rfl
theorem EncodesWellFormedCode.sbcBInd (offset : Byte) : EncodesWellFormedCode.Statement (.sbcBInd offset) := rfl
theorem EncodesWellFormedCode.sbcBExt (addr : Word) : EncodesWellFormedCode.Statement (.sbcBExt addr) := rfl
theorem EncodesWellFormedCode.subAImm (imm : Byte) : EncodesWellFormedCode.Statement (.subAImm imm) := rfl
theorem EncodesWellFormedCode.subADir (addr : Byte) : EncodesWellFormedCode.Statement (.subADir addr) := rfl
theorem EncodesWellFormedCode.subAInd (offset : Byte) : EncodesWellFormedCode.Statement (.subAInd offset) := rfl
theorem EncodesWellFormedCode.subAExt (addr : Word) : EncodesWellFormedCode.Statement (.subAExt addr) := rfl
theorem EncodesWellFormedCode.subBImm (imm : Byte) : EncodesWellFormedCode.Statement (.subBImm imm) := rfl
theorem EncodesWellFormedCode.subBDir (addr : Byte) : EncodesWellFormedCode.Statement (.subBDir addr) := rfl
theorem EncodesWellFormedCode.subBInd (offset : Byte) : EncodesWellFormedCode.Statement (.subBInd offset) := rfl
theorem EncodesWellFormedCode.subBExt (addr : Word) : EncodesWellFormedCode.Statement (.subBExt addr) := rfl
theorem EncodesWellFormedCode.staADir (addr : Byte) : EncodesWellFormedCode.Statement (.staADir addr) := rfl
theorem EncodesWellFormedCode.staAInd (offset : Byte) : EncodesWellFormedCode.Statement (.staAInd offset) := rfl
theorem EncodesWellFormedCode.staAExt (addr : Word) : EncodesWellFormedCode.Statement (.staAExt addr) := rfl
theorem EncodesWellFormedCode.staBDir (addr : Byte) : EncodesWellFormedCode.Statement (.staBDir addr) := rfl
theorem EncodesWellFormedCode.staBInd (offset : Byte) : EncodesWellFormedCode.Statement (.staBInd offset) := rfl
theorem EncodesWellFormedCode.staBExt (addr : Word) : EncodesWellFormedCode.Statement (.staBExt addr) := rfl
theorem EncodesWellFormedCode.aslA : EncodesWellFormedCode.Statement (.aslA) := rfl
theorem EncodesWellFormedCode.aslB : EncodesWellFormedCode.Statement (.aslB) := rfl
theorem EncodesWellFormedCode.aslInd (offset : Byte) : EncodesWellFormedCode.Statement (.aslInd offset) := rfl
theorem EncodesWellFormedCode.aslExt (addr : Word) : EncodesWellFormedCode.Statement (.aslExt addr) := rfl
theorem EncodesWellFormedCode.asrA : EncodesWellFormedCode.Statement (.asrA) := rfl
theorem EncodesWellFormedCode.asrB : EncodesWellFormedCode.Statement (.asrB) := rfl
theorem EncodesWellFormedCode.asrInd (offset : Byte) : EncodesWellFormedCode.Statement (.asrInd offset) := rfl
theorem EncodesWellFormedCode.asrExt (addr : Word) : EncodesWellFormedCode.Statement (.asrExt addr) := rfl
theorem EncodesWellFormedCode.clrA : EncodesWellFormedCode.Statement (.clrA) := rfl
theorem EncodesWellFormedCode.clrB : EncodesWellFormedCode.Statement (.clrB) := rfl
theorem EncodesWellFormedCode.clrInd (offset : Byte) : EncodesWellFormedCode.Statement (.clrInd offset) := rfl
theorem EncodesWellFormedCode.clrExt (addr : Word) : EncodesWellFormedCode.Statement (.clrExt addr) := rfl
theorem EncodesWellFormedCode.comA : EncodesWellFormedCode.Statement (.comA) := rfl
theorem EncodesWellFormedCode.comB : EncodesWellFormedCode.Statement (.comB) := rfl
theorem EncodesWellFormedCode.comInd (offset : Byte) : EncodesWellFormedCode.Statement (.comInd offset) := rfl
theorem EncodesWellFormedCode.comExt (addr : Word) : EncodesWellFormedCode.Statement (.comExt addr) := rfl
theorem EncodesWellFormedCode.decA : EncodesWellFormedCode.Statement (.decA) := rfl
theorem EncodesWellFormedCode.decB : EncodesWellFormedCode.Statement (.decB) := rfl
theorem EncodesWellFormedCode.decInd (offset : Byte) : EncodesWellFormedCode.Statement (.decInd offset) := rfl
theorem EncodesWellFormedCode.decExt (addr : Word) : EncodesWellFormedCode.Statement (.decExt addr) := rfl
theorem EncodesWellFormedCode.incA : EncodesWellFormedCode.Statement (.incA) := rfl
theorem EncodesWellFormedCode.incB : EncodesWellFormedCode.Statement (.incB) := rfl
theorem EncodesWellFormedCode.incInd (offset : Byte) : EncodesWellFormedCode.Statement (.incInd offset) := rfl
theorem EncodesWellFormedCode.incExt (addr : Word) : EncodesWellFormedCode.Statement (.incExt addr) := rfl
theorem EncodesWellFormedCode.lsrA : EncodesWellFormedCode.Statement (.lsrA) := rfl
theorem EncodesWellFormedCode.lsrB : EncodesWellFormedCode.Statement (.lsrB) := rfl
theorem EncodesWellFormedCode.lsrInd (offset : Byte) : EncodesWellFormedCode.Statement (.lsrInd offset) := rfl
theorem EncodesWellFormedCode.lsrExt (addr : Word) : EncodesWellFormedCode.Statement (.lsrExt addr) := rfl
theorem EncodesWellFormedCode.negA : EncodesWellFormedCode.Statement (.negA) := rfl
theorem EncodesWellFormedCode.negB : EncodesWellFormedCode.Statement (.negB) := rfl
theorem EncodesWellFormedCode.negInd (offset : Byte) : EncodesWellFormedCode.Statement (.negInd offset) := rfl
theorem EncodesWellFormedCode.negExt (addr : Word) : EncodesWellFormedCode.Statement (.negExt addr) := rfl
theorem EncodesWellFormedCode.rolA : EncodesWellFormedCode.Statement (.rolA) := rfl
theorem EncodesWellFormedCode.rolB : EncodesWellFormedCode.Statement (.rolB) := rfl
theorem EncodesWellFormedCode.rolInd (offset : Byte) : EncodesWellFormedCode.Statement (.rolInd offset) := rfl
theorem EncodesWellFormedCode.rolExt (addr : Word) : EncodesWellFormedCode.Statement (.rolExt addr) := rfl
theorem EncodesWellFormedCode.rorA : EncodesWellFormedCode.Statement (.rorA) := rfl
theorem EncodesWellFormedCode.rorB : EncodesWellFormedCode.Statement (.rorB) := rfl
theorem EncodesWellFormedCode.rorInd (offset : Byte) : EncodesWellFormedCode.Statement (.rorInd offset) := rfl
theorem EncodesWellFormedCode.rorExt (addr : Word) : EncodesWellFormedCode.Statement (.rorExt addr) := rfl
theorem EncodesWellFormedCode.tstA : EncodesWellFormedCode.Statement (.tstA) := rfl
theorem EncodesWellFormedCode.tstB : EncodesWellFormedCode.Statement (.tstB) := rfl
theorem EncodesWellFormedCode.tstInd (offset : Byte) : EncodesWellFormedCode.Statement (.tstInd offset) := rfl
theorem EncodesWellFormedCode.tstExt (addr : Word) : EncodesWellFormedCode.Statement (.tstExt addr) := rfl
theorem EncodesWellFormedCode.aba : EncodesWellFormedCode.Statement (.aba) := rfl
theorem EncodesWellFormedCode.cba : EncodesWellFormedCode.Statement (.cba) := rfl
theorem EncodesWellFormedCode.sba : EncodesWellFormedCode.Statement (.sba) := rfl
theorem EncodesWellFormedCode.tab : EncodesWellFormedCode.Statement (.tab) := rfl
theorem EncodesWellFormedCode.tba : EncodesWellFormedCode.Statement (.tba) := rfl
theorem EncodesWellFormedCode.daa : EncodesWellFormedCode.Statement (.daa) := rfl
theorem EncodesWellFormedCode.pshA : EncodesWellFormedCode.Statement (.pshA) := rfl
theorem EncodesWellFormedCode.pshB : EncodesWellFormedCode.Statement (.pshB) := rfl
theorem EncodesWellFormedCode.pulA : EncodesWellFormedCode.Statement (.pulA) := rfl
theorem EncodesWellFormedCode.pulB : EncodesWellFormedCode.Statement (.pulB) := rfl
theorem EncodesWellFormedCode.cpxImm (imm : Word) : EncodesWellFormedCode.Statement (.cpxImm imm) := rfl
theorem EncodesWellFormedCode.cpxDir (addr : Byte) : EncodesWellFormedCode.Statement (.cpxDir addr) := rfl
theorem EncodesWellFormedCode.cpxInd (offset : Byte) : EncodesWellFormedCode.Statement (.cpxInd offset) := rfl
theorem EncodesWellFormedCode.cpxExt (addr : Word) : EncodesWellFormedCode.Statement (.cpxExt addr) := rfl
theorem EncodesWellFormedCode.ldsImm (imm : Word) : EncodesWellFormedCode.Statement (.ldsImm imm) := rfl
theorem EncodesWellFormedCode.ldsDir (addr : Byte) : EncodesWellFormedCode.Statement (.ldsDir addr) := rfl
theorem EncodesWellFormedCode.ldsInd (offset : Byte) : EncodesWellFormedCode.Statement (.ldsInd offset) := rfl
theorem EncodesWellFormedCode.ldsExt (addr : Word) : EncodesWellFormedCode.Statement (.ldsExt addr) := rfl
theorem EncodesWellFormedCode.ldxImm (imm : Word) : EncodesWellFormedCode.Statement (.ldxImm imm) := rfl
theorem EncodesWellFormedCode.ldxDir (addr : Byte) : EncodesWellFormedCode.Statement (.ldxDir addr) := rfl
theorem EncodesWellFormedCode.ldxInd (offset : Byte) : EncodesWellFormedCode.Statement (.ldxInd offset) := rfl
theorem EncodesWellFormedCode.ldxExt (addr : Word) : EncodesWellFormedCode.Statement (.ldxExt addr) := rfl
theorem EncodesWellFormedCode.stsDir (addr : Byte) : EncodesWellFormedCode.Statement (.stsDir addr) := rfl
theorem EncodesWellFormedCode.stsInd (offset : Byte) : EncodesWellFormedCode.Statement (.stsInd offset) := rfl
theorem EncodesWellFormedCode.stsExt (addr : Word) : EncodesWellFormedCode.Statement (.stsExt addr) := rfl
theorem EncodesWellFormedCode.stxDir (addr : Byte) : EncodesWellFormedCode.Statement (.stxDir addr) := rfl
theorem EncodesWellFormedCode.stxInd (offset : Byte) : EncodesWellFormedCode.Statement (.stxInd offset) := rfl
theorem EncodesWellFormedCode.stxExt (addr : Word) : EncodesWellFormedCode.Statement (.stxExt addr) := rfl
theorem EncodesWellFormedCode.des : EncodesWellFormedCode.Statement (.des) := rfl
theorem EncodesWellFormedCode.dex : EncodesWellFormedCode.Statement (.dex) := rfl
theorem EncodesWellFormedCode.ins : EncodesWellFormedCode.Statement (.ins) := rfl
theorem EncodesWellFormedCode.inx : EncodesWellFormedCode.Statement (.inx) := rfl
theorem EncodesWellFormedCode.tsx : EncodesWellFormedCode.Statement (.tsx) := rfl
theorem EncodesWellFormedCode.txs : EncodesWellFormedCode.Statement (.txs) := rfl
theorem EncodesWellFormedCode.bra (rel : Byte) : EncodesWellFormedCode.Statement (.bra rel) := rfl
theorem EncodesWellFormedCode.bcc (rel : Byte) : EncodesWellFormedCode.Statement (.bcc rel) := rfl
theorem EncodesWellFormedCode.bcs (rel : Byte) : EncodesWellFormedCode.Statement (.bcs rel) := rfl
theorem EncodesWellFormedCode.beq (rel : Byte) : EncodesWellFormedCode.Statement (.beq rel) := rfl
theorem EncodesWellFormedCode.bge (rel : Byte) : EncodesWellFormedCode.Statement (.bge rel) := rfl
theorem EncodesWellFormedCode.bgt (rel : Byte) : EncodesWellFormedCode.Statement (.bgt rel) := rfl
theorem EncodesWellFormedCode.bhi (rel : Byte) : EncodesWellFormedCode.Statement (.bhi rel) := rfl
theorem EncodesWellFormedCode.ble (rel : Byte) : EncodesWellFormedCode.Statement (.ble rel) := rfl
theorem EncodesWellFormedCode.bls (rel : Byte) : EncodesWellFormedCode.Statement (.bls rel) := rfl
theorem EncodesWellFormedCode.blt (rel : Byte) : EncodesWellFormedCode.Statement (.blt rel) := rfl
theorem EncodesWellFormedCode.bmi (rel : Byte) : EncodesWellFormedCode.Statement (.bmi rel) := rfl
theorem EncodesWellFormedCode.bne (rel : Byte) : EncodesWellFormedCode.Statement (.bne rel) := rfl
theorem EncodesWellFormedCode.bpl (rel : Byte) : EncodesWellFormedCode.Statement (.bpl rel) := rfl
theorem EncodesWellFormedCode.bvc (rel : Byte) : EncodesWellFormedCode.Statement (.bvc rel) := rfl
theorem EncodesWellFormedCode.bvs (rel : Byte) : EncodesWellFormedCode.Statement (.bvs rel) := rfl
theorem EncodesWellFormedCode.bsr (rel : Byte) : EncodesWellFormedCode.Statement (.bsr rel) := rfl
theorem EncodesWellFormedCode.jmpInd (offset : Byte) : EncodesWellFormedCode.Statement (.jmpInd offset) := rfl
theorem EncodesWellFormedCode.jmpExt (addr : Word) : EncodesWellFormedCode.Statement (.jmpExt addr) := rfl
theorem EncodesWellFormedCode.jsrInd (offset : Byte) : EncodesWellFormedCode.Statement (.jsrInd offset) := rfl
theorem EncodesWellFormedCode.jsrExt (addr : Word) : EncodesWellFormedCode.Statement (.jsrExt addr) := rfl
theorem EncodesWellFormedCode.rts : EncodesWellFormedCode.Statement (.rts) := rfl
theorem EncodesWellFormedCode.clc : EncodesWellFormedCode.Statement (.clc) := rfl
theorem EncodesWellFormedCode.cli : EncodesWellFormedCode.Statement (.cli) := rfl
theorem EncodesWellFormedCode.clv : EncodesWellFormedCode.Statement (.clv) := rfl
theorem EncodesWellFormedCode.sec : EncodesWellFormedCode.Statement (.sec) := rfl
theorem EncodesWellFormedCode.sei : EncodesWellFormedCode.Statement (.sei) := rfl
theorem EncodesWellFormedCode.sev : EncodesWellFormedCode.Statement (.sev) := rfl
theorem EncodesWellFormedCode.tap : EncodesWellFormedCode.Statement (.tap) := rfl
theorem EncodesWellFormedCode.tpa : EncodesWellFormedCode.Statement (.tpa) := rfl
theorem EncodesWellFormedCode.nop : EncodesWellFormedCode.Statement (.nop) := rfl
theorem EncodesWellFormedCode.swi : EncodesWellFormedCode.Statement (.swi) := rfl
theorem EncodesWellFormedCode.wai : EncodesWellFormedCode.Statement (.wai) := rfl
theorem EncodesWellFormedCode.rti : EncodesWellFormedCode.Statement (.rti) := rfl

end Sys2Proof.Laws
end

