-- ==== Sys2Proof/Tests/Slice0.lean ====
section
/-! SUPPORT. Own tests: decoding of words written from the encoding lines, ill-formed code, one step per mnemonic on
the spec's vectors (95_test_vectors.md), and for every statement with hypotheses a state that meets them. -/

open Sys2Proof Sys2Proof.Machine Sys2Proof.Claims

set_option maxRecDepth 4000

namespace Sys2Proof.Tests

/-! ### Decoding, by family: first bytes of 30_encoding.md R90, operand bytes 12 or 12 34 -/

/-- Each word decodes to the instruction beside it and leaves nothing. -/
def decodesTo (table : List (List Byte × Instr)) : Bool :=
  table.all fun row => decide (decode row.1 = .ok row.2 [])

theorem test_decode_accumulator_memory_1 : decodesTo
    [([0x89, 0x12], .adcAImm 0x12), ([0x99, 0x12], .adcADir 0x12), ([0xA9, 0x12], .adcAInd 0x12),
     ([0xB9, 0x12, 0x34], .adcAExt 0x1234), ([0xC9, 0x12], .adcBImm 0x12), ([0xD9, 0x12], .adcBDir 0x12),
     ([0xE9, 0x12], .adcBInd 0x12), ([0xF9, 0x12, 0x34], .adcBExt 0x1234), ([0x8B, 0x12], .addAImm 0x12),
     ([0x9B, 0x12], .addADir 0x12), ([0xAB, 0x12], .addAInd 0x12), ([0xBB, 0x12, 0x34], .addAExt 0x1234),
     ([0xCB, 0x12], .addBImm 0x12), ([0xDB, 0x12], .addBDir 0x12), ([0xEB, 0x12], .addBInd 0x12),
     ([0xFB, 0x12, 0x34], .addBExt 0x1234), ([0x84, 0x12], .andAImm 0x12), ([0x94, 0x12], .andADir 0x12),
     ([0xA4, 0x12], .andAInd 0x12), ([0xB4, 0x12, 0x34], .andAExt 0x1234), ([0xC4, 0x12], .andBImm 0x12),
     ([0xD4, 0x12], .andBDir 0x12), ([0xE4, 0x12], .andBInd 0x12), ([0xF4, 0x12, 0x34], .andBExt 0x1234),
     ([0x85, 0x12], .bitAImm 0x12), ([0x95, 0x12], .bitADir 0x12), ([0xA5, 0x12], .bitAInd 0x12),
     ([0xB5, 0x12, 0x34], .bitAExt 0x1234), ([0xC5, 0x12], .bitBImm 0x12), ([0xD5, 0x12], .bitBDir 0x12),
     ([0xE5, 0x12], .bitBInd 0x12), ([0xF5, 0x12, 0x34], .bitBExt 0x1234), ([0x81, 0x12], .cmpAImm 0x12),
     ([0x91, 0x12], .cmpADir 0x12), ([0xA1, 0x12], .cmpAInd 0x12), ([0xB1, 0x12, 0x34], .cmpAExt 0x1234),
     ([0xC1, 0x12], .cmpBImm 0x12), ([0xD1, 0x12], .cmpBDir 0x12), ([0xE1, 0x12], .cmpBInd 0x12),
     ([0xF1, 0x12, 0x34], .cmpBExt 0x1234), ([0x88, 0x12], .eorAImm 0x12), ([0x98, 0x12], .eorADir 0x12),
     ([0xA8, 0x12], .eorAInd 0x12), ([0xB8, 0x12, 0x34], .eorAExt 0x1234)] = true := by decide

theorem test_decode_accumulator_memory_2 : decodesTo
    [([0xC8, 0x12], .eorBImm 0x12), ([0xD8, 0x12], .eorBDir 0x12), ([0xE8, 0x12], .eorBInd 0x12),
     ([0xF8, 0x12, 0x34], .eorBExt 0x1234), ([0x86, 0x12], .ldaAImm 0x12), ([0x96, 0x12], .ldaADir 0x12),
     ([0xA6, 0x12], .ldaAInd 0x12), ([0xB6, 0x12, 0x34], .ldaAExt 0x1234), ([0xC6, 0x12], .ldaBImm 0x12),
     ([0xD6, 0x12], .ldaBDir 0x12), ([0xE6, 0x12], .ldaBInd 0x12), ([0xF6, 0x12, 0x34], .ldaBExt 0x1234),
     ([0x8A, 0x12], .oraAImm 0x12), ([0x9A, 0x12], .oraADir 0x12), ([0xAA, 0x12], .oraAInd 0x12),
     ([0xBA, 0x12, 0x34], .oraAExt 0x1234), ([0xCA, 0x12], .oraBImm 0x12), ([0xDA, 0x12], .oraBDir 0x12),
     ([0xEA, 0x12], .oraBInd 0x12), ([0xFA, 0x12, 0x34], .oraBExt 0x1234), ([0x82, 0x12], .sbcAImm 0x12),
     ([0x92, 0x12], .sbcADir 0x12), ([0xA2, 0x12], .sbcAInd 0x12), ([0xB2, 0x12, 0x34], .sbcAExt 0x1234),
     ([0xC2, 0x12], .sbcBImm 0x12), ([0xD2, 0x12], .sbcBDir 0x12), ([0xE2, 0x12], .sbcBInd 0x12),
     ([0xF2, 0x12, 0x34], .sbcBExt 0x1234), ([0x80, 0x12], .subAImm 0x12), ([0x90, 0x12], .subADir 0x12),
     ([0xA0, 0x12], .subAInd 0x12), ([0xB0, 0x12, 0x34], .subAExt 0x1234), ([0xC0, 0x12], .subBImm 0x12),
     ([0xD0, 0x12], .subBDir 0x12), ([0xE0, 0x12], .subBInd 0x12), ([0xF0, 0x12, 0x34], .subBExt 0x1234),
     ([0x97, 0x12], .staADir 0x12), ([0xA7, 0x12], .staAInd 0x12), ([0xB7, 0x12, 0x34], .staAExt 0x1234),
     ([0xD7, 0x12], .staBDir 0x12), ([0xE7, 0x12], .staBInd 0x12), ([0xF7, 0x12, 0x34], .staBExt 0x1234)] = true := by decide

theorem test_decode_single_operand : decodesTo
    [([0x48], .aslA), ([0x58], .aslB), ([0x68, 0x12], .aslInd 0x12),
     ([0x78, 0x12, 0x34], .aslExt 0x1234), ([0x47], .asrA), ([0x57], .asrB),
     ([0x67, 0x12], .asrInd 0x12), ([0x77, 0x12, 0x34], .asrExt 0x1234), ([0x4F], .clrA),
     ([0x5F], .clrB), ([0x6F, 0x12], .clrInd 0x12), ([0x7F, 0x12, 0x34], .clrExt 0x1234),
     ([0x43], .comA), ([0x53], .comB), ([0x63, 0x12], .comInd 0x12),
     ([0x73, 0x12, 0x34], .comExt 0x1234), ([0x4A], .decA), ([0x5A], .decB),
     ([0x6A, 0x12], .decInd 0x12), ([0x7A, 0x12, 0x34], .decExt 0x1234), ([0x4C], .incA),
     ([0x5C], .incB), ([0x6C, 0x12], .incInd 0x12), ([0x7C, 0x12, 0x34], .incExt 0x1234),
     ([0x44], .lsrA), ([0x54], .lsrB), ([0x64, 0x12], .lsrInd 0x12),
     ([0x74, 0x12, 0x34], .lsrExt 0x1234), ([0x40], .negA), ([0x50], .negB),
     ([0x60, 0x12], .negInd 0x12), ([0x70, 0x12, 0x34], .negExt 0x1234), ([0x49], .rolA),
     ([0x59], .rolB), ([0x69, 0x12], .rolInd 0x12), ([0x79, 0x12, 0x34], .rolExt 0x1234),
     ([0x46], .rorA), ([0x56], .rorB), ([0x66, 0x12], .rorInd 0x12),
     ([0x76, 0x12, 0x34], .rorExt 0x1234), ([0x4D], .tstA), ([0x5D], .tstB),
     ([0x6D, 0x12], .tstInd 0x12), ([0x7D, 0x12, 0x34], .tstExt 0x1234)] = true := by decide

theorem test_decode_accumulator_inherent : decodesTo
    [([0x1B], .aba), ([0x11], .cba), ([0x10], .sba),
     ([0x16], .tab), ([0x17], .tba), ([0x19], .daa),
     ([0x36], .pshA), ([0x37], .pshB), ([0x32], .pulA),
     ([0x33], .pulB)] = true := by decide

theorem test_decode_pointer : decodesTo
    [([0x8C, 0x12, 0x34], .cpxImm 0x1234), ([0x9C, 0x12], .cpxDir 0x12), ([0xAC, 0x12], .cpxInd 0x12),
     ([0xBC, 0x12, 0x34], .cpxExt 0x1234), ([0x8E, 0x12, 0x34], .ldsImm 0x1234), ([0x9E, 0x12], .ldsDir 0x12),
     ([0xAE, 0x12], .ldsInd 0x12), ([0xBE, 0x12, 0x34], .ldsExt 0x1234), ([0xCE, 0x12, 0x34], .ldxImm 0x1234),
     ([0xDE, 0x12], .ldxDir 0x12), ([0xEE, 0x12], .ldxInd 0x12), ([0xFE, 0x12, 0x34], .ldxExt 0x1234),
     ([0x9F, 0x12], .stsDir 0x12), ([0xAF, 0x12], .stsInd 0x12), ([0xBF, 0x12, 0x34], .stsExt 0x1234),
     ([0xDF, 0x12], .stxDir 0x12), ([0xEF, 0x12], .stxInd 0x12), ([0xFF, 0x12, 0x34], .stxExt 0x1234),
     ([0x34], .des), ([0x09], .dex), ([0x31], .ins),
     ([0x08], .inx), ([0x30], .tsx), ([0x35], .txs)] = true := by decide

theorem test_decode_branch : decodesTo
    [([0x20, 0x12], .bra 0x12), ([0x24, 0x12], .bcc 0x12), ([0x25, 0x12], .bcs 0x12),
     ([0x27, 0x12], .beq 0x12), ([0x2C, 0x12], .bge 0x12), ([0x2E, 0x12], .bgt 0x12),
     ([0x22, 0x12], .bhi 0x12), ([0x2F, 0x12], .ble 0x12), ([0x23, 0x12], .bls 0x12),
     ([0x2D, 0x12], .blt 0x12), ([0x2B, 0x12], .bmi 0x12), ([0x26, 0x12], .bne 0x12),
     ([0x2A, 0x12], .bpl 0x12), ([0x28, 0x12], .bvc 0x12), ([0x29, 0x12], .bvs 0x12),
     ([0x8D, 0x12], .bsr 0x12)] = true := by decide

theorem test_decode_jump : decodesTo
    [([0x6E, 0x12], .jmpInd 0x12), ([0x7E, 0x12, 0x34], .jmpExt 0x1234), ([0xAD, 0x12], .jsrInd 0x12),
     ([0xBD, 0x12, 0x34], .jsrExt 0x1234), ([0x39], .rts)] = true := by decide

theorem test_decode_condition_code : decodesTo
    [([0x0C], .clc), ([0x0E], .cli), ([0x0A], .clv),
     ([0x0D], .sec), ([0x0F], .sei), ([0x0B], .sev),
     ([0x06], .tap), ([0x07], .tpa), ([0x01], .nop)] = true := by decide

theorem test_decode_interrupt : decodesTo
    [([0x3F], .swi), ([0x3E], .wai), ([0x3B], .rti)] = true := by decide

/-! ### Ill-formed code, one term for each check of `wellFormedCode` -/

theorem test_empty_code_is_ill_formed : wellFormedCode [] = false := by decide
theorem test_unassigned_byte_is_ill_formed : wellFormedCode [0x00] = false := by decide
theorem test_unassigned_immediate_store_is_ill_formed : wellFormedCode [0x87, 0x12] = false := by decide
theorem test_short_code_is_ill_formed : wellFormedCode [0xBD, 0x20] = false := by decide
theorem test_long_code_is_ill_formed : wellFormedCode [0x01, 0x01] = false := by decide
theorem test_jsr_example_is_well_formed : wellFormedCode [0xBD, 0x20, 0x77] = true := by decide
theorem test_empty_is_rejected : decode [] = .rejected .noBytes := by decide
theorem test_truncated_is_rejected : decode [0xCE, 0x12] = .rejected (.truncated 0xCE) := by decide

/-! ### The host's two readings of the opcode table -/

theorem test_table_word : decodeTableWord 24 0x7720BD = some (.jsrExt 0x2077) := by decide
theorem test_table_word_refused : decodeTableWord 8 0x00 = none := by decide

/-! ### One step, on the vectors of 95_test_vectors.md -/

/-- A machine with these registers and memory, CC given as a byte. -/
def loaded (a b : Byte) (ix sp pc : Word) (cc : Byte) (mem : Memory) : State :=
  { State.reset with accA := a, accB := b, ix := ix, sp := sp, pc := pc, cc := CC.ofByte cc, mem := mem }

/-- The step gives a next state with these registers, CC as a byte, waiting state and memory. -/
def stepsTo (s : State) (a b : Byte) (ix sp pc : Word) (cc : Byte) (waiting : Bool) (mem : Memory) : Bool :=
  match step s with
  | .next t =>
    t.accA == a && t.accB == b && t.ix == ix && t.sp == sp && t.pc == pc && t.cc == CC.ofByte cc &&
      t.waiting == waiting && t.mem == mem
  | _ => false

/-- The next state, if the step has one. -/
def next? (s : State) : Option State :=
  match step s with
  | .next t => some t
  | _ => none

theorem test_reset_runs_a_placed_word : (next? (State.reset.withFetchWord 16 0x1286)).map (fun t => (t.accA, t.pc)) =
    some (0x12, 0x0002) := by decide

theorem test_V40_5_adc : stepsTo (loaded 0xFF 0x00 0x0000 0x0000 0x0100 0xC1
      [(0x100, 0x89)])
    0x00 0x00 0x0000 0x0000 0x0102 0xE5 false [(0x100, 0x89)] = true := by
  decide

theorem test_V40_7_adc : stepsTo (loaded 0x00 0x00 0x0000 0x0000 0x0100 0xC1
      [(0x100, 0x89), (0x101, 0x7F)])
    0x80 0x00 0x0000 0x0000 0x0102 0xEA false [(0x100, 0x89), (0x101, 0x7F)] = true := by
  decide

theorem test_V40_1_add : stepsTo (loaded 0x38 0x00 0x0000 0x0000 0x0100 0xC0
      [(0x100, 0x8B), (0x101, 0x49)])
    0x81 0x00 0x0000 0x0000 0x0102 0xEA false [(0x100, 0x8B), (0x101, 0x49)] = true := by
  decide

theorem test_V40_17_and : stepsTo (loaded 0xF0 0x00 0x0000 0x0000 0x0100 0xC3
      [(0x100, 0x84), (0x101, 0x0F)])
    0x00 0x00 0x0000 0x0000 0x0102 0xC5 false [(0x100, 0x84), (0x101, 0x0F)] = true := by
  decide

theorem test_V40_19_bit : stepsTo (loaded 0x7F 0x00 0x0000 0x0000 0x0100 0xC3
      [(0x100, 0x85), (0x101, 0x80)])
    0x7F 0x00 0x0000 0x0000 0x0102 0xC5 false [(0x100, 0x85), (0x101, 0x80)] = true := by
  decide

theorem test_V40_14_cmp : stepsTo (loaded 0x01 0x00 0x0000 0x0000 0x0100 0xC0
      [(0x100, 0x81), (0x101, 0xFF)])
    0x01 0x00 0x0000 0x0000 0x0102 0xC1 false [(0x100, 0x81), (0x101, 0xFF)] = true := by
  decide

theorem test_V40_16_cmp : stepsTo (loaded 0x00 0x42 0x0000 0x0000 0x0100 0xC1
      [(0x10, 0x42), (0x100, 0xD1), (0x101, 0x10)])
    0x00 0x42 0x0000 0x0000 0x0102 0xC4 false [(0x10, 0x42), (0x100, 0xD1), (0x101, 0x10)] = true := by
  decide

theorem test_V40_21_eor : stepsTo (loaded 0x55 0x00 0x0000 0x0000 0x0100 0xC2
      [(0x100, 0x88), (0x101, 0xFF)])
    0xAA 0x00 0x0000 0x0000 0x0102 0xC8 false [(0x100, 0x88), (0x101, 0xFF)] = true := by
  decide

theorem test_V40_25_lda : stepsTo (loaded 0x55 0x00 0x0000 0x0000 0x0100 0xEB
      [(0x100, 0x86)])
    0x00 0x00 0x0000 0x0000 0x0102 0xE5 false [(0x100, 0x86)] = true := by
  decide

theorem test_V40_23_ora : stepsTo (loaded 0x80 0x00 0x0000 0x0000 0x0100 0xC2
      [(0x100, 0x8A), (0x101, 0x0F)])
    0x8F 0x00 0x0000 0x0000 0x0102 0xC8 false [(0x100, 0x8A), (0x101, 0x0F)] = true := by
  decide

theorem test_V40_11_sbc : stepsTo (loaded 0x00 0x00 0x0000 0x0000 0x0100 0xC1
      [(0x100, 0x82)])
    0xFF 0x00 0x0000 0x0000 0x0102 0xC9 false [(0x100, 0x82)] = true := by
  decide

theorem test_V40_13_sbc : stepsTo (loaded 0x00 0x80 0x1000 0x0000 0x0100 0xC1
      [(0x100, 0xE2), (0x101, 0x05)])
    0x00 0x7F 0x1000 0x0000 0x0102 0xC2 false [(0x100, 0xE2), (0x101, 0x05)] = true := by
  decide

theorem test_V40_8_sub : stepsTo (loaded 0x00 0x00 0x0000 0x0000 0x0100 0xC0
      [(0x100, 0x80), (0x101, 0x01)])
    0xFF 0x00 0x0000 0x0000 0x0102 0xC9 false [(0x100, 0x80), (0x101, 0x01)] = true := by
  decide

theorem test_V40_29_sta : stepsTo (loaded 0x00 0x00 0x0000 0x0000 0x0100 0xCB
      [(0x20, 0xEE), (0x100, 0x97), (0x101, 0x20)])
    0x00 0x00 0x0000 0x0000 0x0102 0xC5 false [(0x100, 0x97), (0x101, 0x20)] = true := by
  decide

theorem test_V40_31_sta : stepsTo (loaded 0x12 0x00 0x0000 0x0000 0x0100 0xC0
      [(0x100, 0xB7), (0x101, 0xFF), (0x102, 0xFF)])
    0x12 0x00 0x0000 0x0000 0x0103 0xC0 false [(0x100, 0xB7), (0x101, 0xFF), (0x102, 0xFF), (0xFFFF, 0x12)] = true := by
  decide

theorem test_V41_1_asl : stepsTo (loaded 0x80 0x00 0x0000 0x0000 0x0100 0xC0
      [(0x100, 0x48)])
    0x00 0x00 0x0000 0x0000 0x0101 0xC7 false [(0x100, 0x48)] = true := by
  decide

theorem test_V41_5_asr : stepsTo (loaded 0x81 0x00 0x0000 0x0000 0x0100 0xC0
      [(0x100, 0x47)])
    0xC0 0x00 0x0000 0x0000 0x0101 0xC9 false [(0x100, 0x47)] = true := by
  decide

theorem test_V41_8_asr : stepsTo (loaded 0x00 0x00 0x0300 0x0000 0x0100 0xC0
      [(0x100, 0x67), (0x101, 0x02), (0x302, 0x80)])
    0x00 0x00 0x0300 0x0000 0x0102 0xCA false [(0x100, 0x67), (0x101, 0x02), (0x302, 0xC0)] = true := by
  decide

theorem test_V41_9_clr : stepsTo (loaded 0x00 0x5A 0x0000 0x0000 0x0100 0xCB
      [(0x100, 0x5F)])
    0x00 0x00 0x0000 0x0000 0x0101 0xC4 false [(0x100, 0x5F)] = true := by
  decide

theorem test_V41_11_com : stepsTo (loaded 0x55 0x00 0x0000 0x0000 0x0100 0xC0
      [(0x100, 0x43)])
    0xAA 0x00 0x0000 0x0000 0x0101 0xC9 false [(0x100, 0x43)] = true := by
  decide

theorem test_V41_14_dec : stepsTo (loaded 0x80 0x00 0x0000 0x0000 0x0100 0xC1
      [(0x100, 0x4A)])
    0x7F 0x00 0x0000 0x0000 0x0101 0xC3 false [(0x100, 0x4A)] = true := by
  decide

theorem test_V41_17_dec : stepsTo (loaded 0x00 0x00 0x0000 0x0000 0x0100 0xC0
      [(0x100, 0x7A), (0x101, 0x03), (0x300, 0x10)])
    0x00 0x00 0x0000 0x0000 0x0103 0xC0 false [(0x100, 0x7A), (0x101, 0x03), (0x300, 0x0F)] = true := by
  decide

theorem test_V41_18_inc : stepsTo (loaded 0x7F 0x00 0x0000 0x0000 0x0100 0xC0
      [(0x100, 0x4C)])
    0x80 0x00 0x0000 0x0000 0x0101 0xCA false [(0x100, 0x4C)] = true := by
  decide

theorem test_V41_21_inc : stepsTo (loaded 0x00 0x00 0x0201 0x0000 0x0100 0xC0
      [(0x100, 0x6C), (0x101, 0xFF), (0x300, 0x41)])
    0x00 0x00 0x0201 0x0000 0x0102 0xC0 false [(0x100, 0x6C), (0x101, 0xFF), (0x300, 0x42)] = true := by
  decide

theorem test_V41_22_lsr : stepsTo (loaded 0x81 0x00 0x0000 0x0000 0x0100 0xC8
      [(0x100, 0x44)])
    0x40 0x00 0x0000 0x0000 0x0101 0xC3 false [(0x100, 0x44)] = true := by
  decide

theorem test_V41_25_neg : stepsTo (loaded 0x01 0x00 0x0000 0x0000 0x0100 0xC0
      [(0x100, 0x40)])
    0xFF 0x00 0x0000 0x0000 0x0101 0xC9 false [(0x100, 0x40)] = true := by
  decide

theorem test_V41_28_neg : stepsTo (loaded 0x00 0x00 0x0300 0x0000 0x0100 0xC0
      [(0x100, 0x60), (0x300, 0x7F)])
    0x00 0x00 0x0300 0x0000 0x0102 0xC9 false [(0x100, 0x60), (0x300, 0x81)] = true := by
  decide

theorem test_V41_29_rol : stepsTo (loaded 0x80 0x00 0x0000 0x0000 0x0100 0xC1
      [(0x100, 0x49)])
    0x01 0x00 0x0000 0x0000 0x0101 0xC3 false [(0x100, 0x49)] = true := by
  decide

theorem test_V41_32_rol : stepsTo (loaded 0x00 0x00 0x0000 0x0000 0x0100 0xC1
      [(0x100, 0x79), (0x101, 0x03), (0x300, 0x55)])
    0x00 0x00 0x0000 0x0000 0x0103 0xCA false [(0x100, 0x79), (0x101, 0x03), (0x300, 0xAB)] = true := by
  decide

theorem test_V41_33_ror : stepsTo (loaded 0x01 0x00 0x0000 0x0000 0x0100 0xC0
      [(0x100, 0x46)])
    0x00 0x00 0x0000 0x0000 0x0101 0xC7 false [(0x100, 0x46)] = true := by
  decide

theorem test_V41_36_ror : stepsTo (loaded 0x00 0x00 0x02FF 0x0000 0x0100 0xC1
      [(0x100, 0x66), (0x101, 0x01), (0x300, 0x02)])
    0x00 0x00 0x02FF 0x0000 0x0102 0xCA false [(0x100, 0x66), (0x101, 0x01), (0x300, 0x81)] = true := by
  decide

theorem test_V41_37_tst : stepsTo (loaded 0x80 0x00 0x0000 0x0000 0x0100 0xC3
      [(0x100, 0x4D)])
    0x80 0x00 0x0000 0x0000 0x0101 0xC8 false [(0x100, 0x4D)] = true := by
  decide

theorem test_V41_39_tst : stepsTo (loaded 0x00 0x00 0x0000 0x0000 0x0100 0xC2
      [(0x100, 0x7D), (0x101, 0x03), (0x300, 0x7F)])
    0x00 0x00 0x0000 0x0000 0x0103 0xC0 false [(0x100, 0x7D), (0x101, 0x03), (0x300, 0x7F)] = true := by
  decide

theorem test_V42_1_aba : stepsTo (loaded 0x38 0x49 0x0000 0x0000 0x0100 0xC0
      [(0x100, 0x1B)])
    0x81 0x49 0x0000 0x0000 0x0101 0xEA false [(0x100, 0x1B)] = true := by
  decide

theorem test_V42_4_cba : stepsTo (loaded 0x05 0x05 0x0000 0x0000 0x0100 0xC1
      [(0x100, 0x11)])
    0x05 0x05 0x0000 0x0000 0x0101 0xC4 false [(0x100, 0x11)] = true := by
  decide

theorem test_V42_7_sba : stepsTo (loaded 0x10 0x01 0x0000 0x0000 0x0100 0xC1
      [(0x100, 0x10)])
    0x0F 0x01 0x0000 0x0000 0x0101 0xC0 false [(0x100, 0x10)] = true := by
  decide

theorem test_V42_10_tab : stepsTo (loaded 0x80 0x11 0x0000 0x0000 0x0100 0xC3
      [(0x100, 0x16)])
    0x80 0x80 0x0000 0x0000 0x0101 0xC9 false [(0x100, 0x16)] = true := by
  decide

theorem test_V42_12_tba : stepsTo (loaded 0x7F 0x00 0x0000 0x0000 0x0100 0xC2
      [(0x100, 0x17)])
    0x00 0x00 0x0000 0x0000 0x0101 0xC4 false [(0x100, 0x17)] = true := by
  decide

theorem test_V42_14_daa : (next? (loaded 0x45 0x00 0x0000 0x0000 0x0100 0xC0
      [(0x100, 0x19)])).map
    (fun t => (t.accA, t.pc, t.cc.h, t.cc.n, t.cc.z, t.cc.c)) = some (0x45, 0x0101, false, false, false, false) := by
  decide

theorem test_V42_23_daa : (next? (loaded 0x00 0x00 0x0000 0x0000 0x0100 0xC8
      [(0x100, 0x19)])).map
    (fun t => (t.accA, t.pc, t.cc.h, t.cc.n, t.cc.z, t.cc.c)) = some (0x00, 0x0101, false, false, true, false) := by
  decide

theorem test_V42_24_psh : stepsTo (loaded 0x12 0x00 0x0000 0xEFFF 0x0100 0xC0
      [(0x100, 0x36)])
    0x12 0x00 0x0000 0xEFFE 0x0101 0xC0 false [(0x100, 0x36), (0xEFFF, 0x12)] = true := by
  decide

theorem test_V42_26_pul : stepsTo (loaded 0x00 0x00 0x0000 0xEFFE 0x0100 0xC4
      [(0x100, 0x32), (0xEFFF, 0x80)])
    0x80 0x00 0x0000 0xEFFF 0x0101 0xC4 false [(0x100, 0x32), (0xEFFF, 0x80)] = true := by
  decide

theorem test_V42_27_pul : stepsTo (loaded 0x00 0x00 0x0000 0xFFFF 0x0100 0xC0
      [(0x0, 0x77), (0x100, 0x33)])
    0x00 0x77 0x0000 0x0000 0x0101 0xC0 false [(0x0, 0x77), (0x100, 0x33)] = true := by
  decide

theorem test_V43_1_cpx : stepsTo (loaded 0x00 0x00 0x1234 0x0000 0x0100 0xC1
      [(0x100, 0x8C), (0x101, 0x12), (0x102, 0x34)])
    0x00 0x00 0x1234 0x0000 0x0103 0xC5 false [(0x100, 0x8C), (0x101, 0x12), (0x102, 0x34)] = true := by
  decide

theorem test_V43_6_cpx : stepsTo (loaded 0x00 0x00 0x00FF 0x0000 0x0100 0xC1
      [(0x100, 0x8C), (0x101, 0x01)])
    0x00 0x00 0x00FF 0x0000 0x0103 0xC9 false [(0x100, 0x8C), (0x101, 0x01)] = true := by
  decide

theorem test_V43_7_lds : stepsTo (loaded 0x00 0x00 0x0000 0x0000 0x0100 0xC2
      [(0x100, 0x8E), (0x101, 0xEF), (0x102, 0xFF)])
    0x00 0x00 0x0000 0xEFFF 0x0103 0xC8 false [(0x100, 0x8E), (0x101, 0xEF), (0x102, 0xFF)] = true := by
  decide

theorem test_V43_9_ldx : stepsTo (loaded 0x00 0x00 0x0000 0x0000 0x0100 0xC9
      [(0x100, 0xCE), (0x101, 0x12), (0x102, 0x34)])
    0x00 0x00 0x1234 0x0000 0x0103 0xC1 false [(0x100, 0xCE), (0x101, 0x12), (0x102, 0x34)] = true := by
  decide

theorem test_V43_11_ldx : stepsTo (loaded 0x00 0x00 0x0000 0x0000 0x0100 0xC0
      [(0x0, 0x34), (0x100, 0xFE), (0x101, 0xFF), (0x102, 0xFF), (0xFFFF, 0x12)])
    0x00 0x00 0x1234 0x0000 0x0103 0xC0 false [(0x0, 0x34), (0x100, 0xFE), (0x101, 0xFF), (0x102, 0xFF), (0xFFFF, 0x12)] = true := by
  decide

theorem test_V43_12_sts : stepsTo (loaded 0x00 0x00 0x0000 0xEFFD 0x0100 0xC2
      [(0x100, 0x9F), (0x101, 0x20)])
    0x00 0x00 0x0000 0xEFFD 0x0102 0xC8 false [(0x20, 0xEF), (0x21, 0xFD), (0x100, 0x9F), (0x101, 0x20)] = true := by
  decide

theorem test_V43_14_stx : stepsTo (loaded 0x00 0x00 0x00FF 0x0000 0x0100 0xC8
      [(0x20, 0xAA), (0x21, 0xAA), (0x100, 0xDF), (0x101, 0x20)])
    0x00 0x00 0x00FF 0x0000 0x0102 0xC0 false [(0x21, 0xFF), (0x100, 0xDF), (0x101, 0x20)] = true := by
  decide

theorem test_V43_16_stx : stepsTo (loaded 0x00 0x00 0xBEEF 0x0000 0x0100 0xC0
      [(0x100, 0xDF), (0x101, 0xFF)])
    0x00 0x00 0xBEEF 0x0000 0x0102 0xC8 false [(0xFF, 0xBE), (0x100, 0xEF), (0x101, 0xFF)] = true := by
  decide

theorem test_V43_17_des : stepsTo (loaded 0x00 0x00 0x0000 0x0000 0x0100 0xC4
      [(0x100, 0x34)])
    0x00 0x00 0x0000 0xFFFF 0x0101 0xC4 false [(0x100, 0x34)] = true := by
  decide

theorem test_V43_18_dex : stepsTo (loaded 0x00 0x00 0x0001 0x0000 0x0100 0xC8
      [(0x100, 0x09)])
    0x00 0x00 0x0000 0x0000 0x0101 0xCC false [(0x100, 0x09)] = true := by
  decide

theorem test_V43_19_dex : stepsTo (loaded 0x00 0x00 0x0000 0x0000 0x0100 0xC4
      [(0x100, 0x09)])
    0x00 0x00 0xFFFF 0x0000 0x0101 0xC0 false [(0x100, 0x09)] = true := by
  decide

theorem test_V43_20_ins : stepsTo (loaded 0x00 0x00 0x0000 0xFFFF 0x0100 0xC0
      [(0x100, 0x31)])
    0x00 0x00 0x0000 0x0000 0x0101 0xC0 false [(0x100, 0x31)] = true := by
  decide

theorem test_V43_21_inx : stepsTo (loaded 0x00 0x00 0xFFFF 0x0000 0x0100 0xC1
      [(0x100, 0x08)])
    0x00 0x00 0x0000 0x0000 0x0101 0xC5 false [(0x100, 0x08)] = true := by
  decide

theorem test_V43_22_inx : stepsTo (loaded 0x00 0x00 0x00FF 0x0000 0x0100 0xC4
      [(0x100, 0x08)])
    0x00 0x00 0x0100 0x0000 0x0101 0xC0 false [(0x100, 0x08)] = true := by
  decide

theorem test_V43_23_tsx : stepsTo (loaded 0x00 0x00 0x0000 0xEFF8 0x0100 0xC0
      [(0x100, 0x30)])
    0x00 0x00 0xEFF9 0xEFF8 0x0101 0xC0 false [(0x100, 0x30)] = true := by
  decide

theorem test_V43_25_txs : stepsTo (loaded 0x00 0x00 0xF000 0x0000 0x0100 0xC0
      [(0x100, 0x35)])
    0x00 0x00 0xF000 0xEFFF 0x0101 0xC0 false [(0x100, 0x35)] = true := by
  decide

theorem test_V44_1_bra : stepsTo (loaded 0x00 0x00 0x0000 0x0000 0x0100 0xC0
      [(0x100, 0x20), (0x101, 0x13)])
    0x00 0x00 0x0000 0x0000 0x0115 0xC0 false [(0x100, 0x20), (0x101, 0x13)] = true := by
  decide

theorem test_V44_7_bra : stepsTo (loaded 0x00 0x00 0x0000 0x0000 0x0000 0xC0
      [(0x0, 0x20), (0x1, 0xF0)])
    0x00 0x00 0x0000 0x0000 0xFFF2 0xC0 false [(0x0, 0x20), (0x1, 0xF0)] = true := by
  decide

theorem test_V44_8_bcc : stepsTo (loaded 0x00 0x00 0x0000 0x0000 0x0100 0xC0
      [(0x100, 0x24), (0x101, 0x10)])
    0x00 0x00 0x0000 0x0000 0x0112 0xC0 false [(0x100, 0x24), (0x101, 0x10)] = true := by
  decide

theorem test_V44_10_bcs : stepsTo (loaded 0x00 0x00 0x0000 0x0000 0x0100 0xC1
      [(0x100, 0x25), (0x101, 0x10)])
    0x00 0x00 0x0000 0x0000 0x0112 0xC1 false [(0x100, 0x25), (0x101, 0x10)] = true := by
  decide

theorem test_V44_12_beq : stepsTo (loaded 0x00 0x00 0x0000 0x0000 0x0100 0xC4
      [(0x100, 0x27), (0x101, 0xF0)])
    0x00 0x00 0x0000 0x0000 0x00F2 0xC4 false [(0x100, 0x27), (0x101, 0xF0)] = true := by
  decide

theorem test_V44_24_bge : stepsTo (loaded 0x00 0x00 0x0000 0x0000 0x0100 0xCA
      [(0x100, 0x2C), (0x101, 0x10)])
    0x00 0x00 0x0000 0x0000 0x0112 0xCA false [(0x100, 0x2C), (0x101, 0x10)] = true := by
  decide

theorem test_V44_28_bgt : stepsTo (loaded 0x00 0x00 0x0000 0x0000 0x0100 0xCA
      [(0x100, 0x2E), (0x101, 0x10)])
    0x00 0x00 0x0000 0x0000 0x0112 0xCA false [(0x100, 0x2E), (0x101, 0x10)] = true := by
  decide

theorem test_V44_29_bgt : stepsTo (loaded 0x00 0x00 0x0000 0x0000 0x0100 0xC4
      [(0x100, 0x2E), (0x101, 0x10)])
    0x00 0x00 0x0000 0x0000 0x0102 0xC4 false [(0x100, 0x2E), (0x101, 0x10)] = true := by
  decide

theorem test_V44_32_bhi : stepsTo (loaded 0x00 0x00 0x0000 0x0000 0x0100 0xC0
      [(0x100, 0x22), (0x101, 0x10)])
    0x00 0x00 0x0000 0x0000 0x0112 0xC0 false [(0x100, 0x22), (0x101, 0x10)] = true := by
  decide

theorem test_V44_34_bhi : stepsTo (loaded 0x00 0x00 0x0000 0x0000 0x0100 0xC4
      [(0x100, 0x22), (0x101, 0x10)])
    0x00 0x00 0x0000 0x0000 0x0102 0xC4 false [(0x100, 0x22), (0x101, 0x10)] = true := by
  decide

theorem test_V44_30_ble : stepsTo (loaded 0x00 0x00 0x0000 0x0000 0x0100 0xC4
      [(0x100, 0x2F), (0x101, 0x10)])
    0x00 0x00 0x0000 0x0000 0x0112 0xC4 false [(0x100, 0x2F), (0x101, 0x10)] = true := by
  decide

theorem test_V44_31_ble : stepsTo (loaded 0x00 0x00 0x0000 0x0000 0x0100 0xCA
      [(0x100, 0x2F), (0x101, 0x10)])
    0x00 0x00 0x0000 0x0000 0x0102 0xCA false [(0x100, 0x2F), (0x101, 0x10)] = true := by
  decide

theorem test_V44_35_bls : stepsTo (loaded 0x00 0x00 0x0000 0x0000 0x0100 0xC1
      [(0x100, 0x23), (0x101, 0x10)])
    0x00 0x00 0x0000 0x0000 0x0112 0xC1 false [(0x100, 0x23), (0x101, 0x10)] = true := by
  decide

theorem test_V44_36_bls : stepsTo (loaded 0x00 0x00 0x0000 0x0000 0x0100 0xC0
      [(0x100, 0x23), (0x101, 0x10)])
    0x00 0x00 0x0000 0x0000 0x0102 0xC0 false [(0x100, 0x23), (0x101, 0x10)] = true := by
  decide

theorem test_V44_26_blt : stepsTo (loaded 0x00 0x00 0x0000 0x0000 0x0100 0xC2
      [(0x100, 0x2D), (0x101, 0x10)])
    0x00 0x00 0x0000 0x0000 0x0112 0xC2 false [(0x100, 0x2D), (0x101, 0x10)] = true := by
  decide

theorem test_V44_16_bmi : stepsTo (loaded 0x00 0x00 0x0000 0x0000 0x0100 0xC8
      [(0x100, 0x2B), (0x101, 0x10)])
    0x00 0x00 0x0000 0x0000 0x0112 0xC8 false [(0x100, 0x2B), (0x101, 0x10)] = true := by
  decide

theorem test_V44_14_bne : stepsTo (loaded 0x00 0x00 0x0000 0x0000 0x0100 0xC0
      [(0x100, 0x26), (0x101, 0xF0)])
    0x00 0x00 0x0000 0x0000 0x00F2 0xC0 false [(0x100, 0x26), (0x101, 0xF0)] = true := by
  decide

theorem test_V44_18_bpl : stepsTo (loaded 0x00 0x00 0x0000 0x0000 0x0100 0xC0
      [(0x100, 0x2A), (0x101, 0x10)])
    0x00 0x00 0x0000 0x0000 0x0112 0xC0 false [(0x100, 0x2A), (0x101, 0x10)] = true := by
  decide

theorem test_V44_20_bvc : stepsTo (loaded 0x00 0x00 0x0000 0x0000 0x0100 0xC0
      [(0x100, 0x28), (0x101, 0x10)])
    0x00 0x00 0x0000 0x0000 0x0112 0xC0 false [(0x100, 0x28), (0x101, 0x10)] = true := by
  decide

theorem test_V44_22_bvs : stepsTo (loaded 0x00 0x00 0x0000 0x0000 0x0100 0xC2
      [(0x100, 0x29), (0x101, 0x10)])
    0x00 0x00 0x0000 0x0000 0x0112 0xC2 false [(0x100, 0x29), (0x101, 0x10)] = true := by
  decide

theorem test_V44_37_bsr : stepsTo (loaded 0x00 0x00 0x0000 0xEFFF 0x1000 0xC0
      [(0x1000, 0x8D), (0x1001, 0x50)])
    0x00 0x00 0x0000 0xEFFD 0x1052 0xC0 false [(0x1000, 0x8D), (0x1001, 0x50), (0xEFFE, 0x10), (0xEFFF, 0x02)] = true := by
  decide

theorem test_V45_1_jmp : stepsTo (loaded 0x00 0x00 0x0000 0x0000 0x0100 0xC9
      [(0x100, 0x7E), (0x101, 0x20), (0x102, 0x77)])
    0x00 0x00 0x0000 0x0000 0x2077 0xC9 false [(0x100, 0x7E), (0x101, 0x20), (0x102, 0x77)] = true := by
  decide

theorem test_V45_4_jsr : stepsTo (loaded 0x00 0x00 0x0000 0xEFFF 0x0FFF 0xC0
      [(0xFFF, 0xBD), (0x1000, 0x20), (0x1001, 0x77)])
    0x00 0x00 0x0000 0xEFFD 0x2077 0xC0 false [(0xFFF, 0xBD), (0x1000, 0x20), (0x1001, 0x77), (0xEFFE, 0x10), (0xEFFF, 0x02)] = true := by
  decide

theorem test_V45_6_jsr : stepsTo (loaded 0x00 0x00 0x0000 0x0000 0x0100 0xC0
      [(0x100, 0xBD), (0x101, 0x04)])
    0x00 0x00 0x0000 0xFFFE 0x0400 0xC0 false [(0x0, 0x03), (0x100, 0xBD), (0x101, 0x04), (0xFFFF, 0x01)] = true := by
  decide

theorem test_V45_7_rts : stepsTo (loaded 0x00 0x00 0x0000 0xEFFD 0x30A2 0xC0
      [(0x30A2, 0x39), (0xEFFE, 0x10), (0xEFFF, 0x02)])
    0x00 0x00 0x0000 0xEFFF 0x1002 0xC0 false [(0x30A2, 0x39), (0xEFFE, 0x10), (0xEFFF, 0x02)] = true := by
  decide

theorem test_V46_1_clc : stepsTo (loaded 0x00 0x00 0x0000 0x0000 0x0100 0xFF
      [(0x100, 0x0C)])
    0x00 0x00 0x0000 0x0000 0x0101 0xFE false [(0x100, 0x0C)] = true := by
  decide

theorem test_V46_2_cli : stepsTo (loaded 0x00 0x00 0x0000 0x0000 0x0100 0xFF
      [(0x100, 0x0E)])
    0x00 0x00 0x0000 0x0000 0x0101 0xEF false [(0x100, 0x0E)] = true := by
  decide

theorem test_V46_3_clv : stepsTo (loaded 0x00 0x00 0x0000 0x0000 0x0100 0xFF
      [(0x100, 0x0A)])
    0x00 0x00 0x0000 0x0000 0x0101 0xFD false [(0x100, 0x0A)] = true := by
  decide

theorem test_V46_4_sec : stepsTo (loaded 0x00 0x00 0x0000 0x0000 0x0100 0xC0
      [(0x100, 0x0D)])
    0x00 0x00 0x0000 0x0000 0x0101 0xC1 false [(0x100, 0x0D)] = true := by
  decide

theorem test_V46_5_sei : stepsTo (loaded 0x00 0x00 0x0000 0x0000 0x0100 0xC0
      [(0x100, 0x0F)])
    0x00 0x00 0x0000 0x0000 0x0101 0xD0 false [(0x100, 0x0F)] = true := by
  decide

theorem test_V46_6_sev : stepsTo (loaded 0x00 0x00 0x0000 0x0000 0x0100 0xC0
      [(0x100, 0x0B)])
    0x00 0x00 0x0000 0x0000 0x0101 0xC2 false [(0x100, 0x0B)] = true := by
  decide

theorem test_V46_7_tap : stepsTo (loaded 0xD5 0x00 0x0000 0x0000 0x0100 0xC0
      [(0x100, 0x06)])
    0xD5 0x00 0x0000 0x0000 0x0101 0xD5 false [(0x100, 0x06)] = true := by
  decide

theorem test_V46_9_tap : stepsTo (loaded 0x00 0x00 0x0000 0x0000 0x0100 0xFF
      [(0x100, 0x06)])
    0x00 0x00 0x0000 0x0000 0x0101 0xC0 false [(0x100, 0x06)] = true := by
  decide

theorem test_V46_10_tpa : stepsTo (loaded 0x00 0x00 0x0000 0x0000 0x0100 0xC0
      [(0x100, 0x07)])
    0xC0 0x00 0x0000 0x0000 0x0101 0xC0 false [(0x100, 0x07)] = true := by
  decide

theorem test_V46_13_nop : stepsTo (loaded 0x12 0x34 0x5678 0x9ABC 0xFFFF 0xEA
      [(0xFFFF, 0x01)])
    0x12 0x34 0x5678 0x9ABC 0x0000 0xEA false [(0xFFFF, 0x01)] = true := by
  decide

theorem test_V47_1_swi : stepsTo (loaded 0x34 0x12 0x5678 0xEFFF 0x5566 0xEA
      [(0x5566, 0x3F), (0xFFFA, 0xD0), (0xFFFB, 0x55)])
    0x34 0x12 0x5678 0xEFF8 0xD055 0xFA false [(0x5566, 0x3F), (0xEFF9, 0xEA), (0xEFFA, 0x12), (0xEFFB, 0x34), (0xEFFC, 0x56), (0xEFFD, 0x78), (0xEFFE, 0x55), (0xEFFF, 0x67), (0xFFFA, 0xD0), (0xFFFB, 0x55)] = true := by
  decide

theorem test_V47_2_swi : stepsTo (loaded 0x01 0x02 0x0304 0x0003 0xFFFF 0xDF
      [(0x0, 0xAA), (0x1, 0xAA), (0x2, 0xAA), (0x3, 0xAA), (0xFFFA, 0x12), (0xFFFB, 0x34), (0xFFFD, 0xAA), (0xFFFE, 0xAA), (0xFFFF, 0x3F)])
    0x01 0x02 0x0304 0xFFFC 0x1234 0xDF false [(0x0, 0x03), (0x1, 0x04), (0xFFFA, 0x12), (0xFFFB, 0x34), (0xFFFD, 0xDF), (0xFFFE, 0x02), (0xFFFF, 0x01)] = true := by
  decide

theorem test_V47_3_wai : stepsTo (loaded 0x01 0x02 0x5678 0x01FF 0x1233 0xC0
      [(0x1233, 0x3E)])
    0x01 0x02 0x5678 0x01F8 0x1234 0xC0 true [(0x1F9, 0xC0), (0x1FA, 0x02), (0x1FB, 0x01), (0x1FC, 0x56), (0x1FD, 0x78), (0x1FE, 0x12), (0x1FF, 0x34), (0x1233, 0x3E)] = true := by
  decide

theorem test_V47_4_wai : stepsTo (loaded 0xAA 0xBB 0xCCDD 0x01FF 0x0200 0xD1
      [(0x200, 0x3E)])
    0xAA 0xBB 0xCCDD 0x01F8 0x0201 0xD1 true [(0x1F9, 0xD1), (0x1FA, 0xBB), (0x1FB, 0xAA), (0x1FC, 0xCC), (0x1FD, 0xDD), (0x1FE, 0x02), (0x1FF, 0x01), (0x200, 0x3E)] = true := by
  decide

theorem test_V47_5_rti : stepsTo (loaded 0x00 0x00 0x0000 0xEFF8 0xD066 0xC0
      [(0xD066, 0x3B), (0xEFF9, 0xEA), (0xEFFA, 0x12), (0xEFFB, 0x34), (0xEFFC, 0x56), (0xEFFD, 0x78), (0xEFFE, 0x55), (0xEFFF, 0x67)])
    0x34 0x12 0x5678 0xEFFF 0x5567 0xEA false [(0xD066, 0x3B), (0xEFF9, 0xEA), (0xEFFA, 0x12), (0xEFFB, 0x34), (0xEFFC, 0x56), (0xEFFD, 0x78), (0xEFFE, 0x55), (0xEFFF, 0x67)] = true := by
  decide

theorem test_V47_7_rti : stepsTo (loaded 0x00 0x00 0x0000 0xFFFC 0x0100 0xD0
      [(0x0, 0x33), (0x1, 0x44), (0x2, 0x55), (0x3, 0x66), (0x100, 0x3B), (0xFFFD, 0xC1), (0xFFFE, 0x11), (0xFFFF, 0x22)])
    0x22 0x11 0x3344 0x0003 0x5566 0xC1 false [(0x0, 0x33), (0x1, 0x44), (0x2, 0x55), (0x3, 0x66), (0x100, 0x3B), (0xFFFD, 0xC1), (0xFFFE, 0x11), (0xFFFF, 0x22)] = true := by
  decide

/-! ### Interrupt requests, waiting, refusal (vectors V60) -/

/-- A machine as before, with the samples of the request input at the coming steps. -/
def requested (s : State) (line : List Bool) : State := { s with irqLine := line }

/-- The frame and the handler address are V60.1's; the entry is the one the step makes. -/
theorem test_V60_1_entry_is_taken :
    step (requested (loaded 0x34 0x12 0x5678 0x01FF 0x0300 0xEA [(0x0300, 0x4C), (0xFFF8, 0x05), (0xFFF9, 0x80)]) [true])
      = .next (requested (loaded 0x34 0x12 0x5678 0x01FF 0x0300 0xEA
          [(0x0300, 0x4C), (0xFFF8, 0x05), (0xFFF9, 0x80)]) [true]).beginStep.interruptEntry := by
  rcases step_cases (requested (loaded 0x34 0x12 0x5678 0x01FF 0x0300 0xEA
      [(0x0300, 0x4C), (0xFFF8, 0x05), (0xFFF9, 0x80)]) [true]) with h | h | h | h
  · exact absurd h.1 (by decide)
  · exact h.2.2
  · exact absurd h.2.1 (by simp [State.recognises, requested, loaded, State.reset, State.powerOn, State.irq, CC.ofByte])
  · exact absurd h.2.1 (by simp [State.recognises, requested, loaded, State.reset, State.powerOn, State.irq, CC.ofByte])

theorem test_V60_1_entry : let t := (loaded 0x34 0x12 0x5678 0x01FF 0x0300 0xEA
      [(0x0300, 0x4C), (0xFFF8, 0x05), (0xFFF9, 0x80)]).interruptEntry
    (t.sp, t.pc, t.cc.toByte) = (0x01F8, 0x0580, 0xFA) ∧
      t.mem = [(0x01F9, 0xEA), (0x01FA, 0x12), (0x01FB, 0x34), (0x01FC, 0x56), (0x01FD, 0x78), (0x01FE, 0x03),
        (0x0300, 0x4C), (0xFFF8, 0x05), (0xFFF9, 0x80)] := by
  decide

theorem test_V60_2_masked : stepsTo (requested (loaded 0x34 0x12 0x5678 0x01FF 0x0300 0xFA [(0x0300, 0x4C)]) [true])
    0x35 0x12 0x5678 0x01FF 0x0301 0xF0 false [(0x0300, 0x4C)] = true := by
  decide

theorem test_V60_4_resume : stepsTo
    { requested (loaded 0 0 0 0x01F8 0x1234 0xC0 [(0xFFF8, 0x05), (0xFFF9, 0x80)]) [true] with waiting := true }
    0 0 0 0x01F8 0x0580 0xD0 false [(0xFFF8, 0x05), (0xFFF9, 0x80)] = true := by
  decide

theorem test_V60_5_stays : stepsTo { requested (loaded 0 0 0 0x01F8 0x1234 0xD0 []) [true] with waiting := true }
    0 0 0 0x01F8 0x1234 0xD0 true [] = true := by
  decide

theorem test_V60_6_refused : (match step (loaded 0 0 0 0 0x0300 0xD0 []) with
    | .refused (.illegalOpcode op) => op == 0x00
    | _ => false) = true := by
  decide

/-- V60.8 and V60.9: after CLI the one more instruction runs exactly if the delay parameter is 1. -/
theorem test_V60_8_9_after_cli : ∀ t : State, step (requested (loaded 0 0 0 0x01FF 0x0300 0xD0
      [(0x0300, 0x0E), (0x0301, 0x4C)]) [true, true]) = .next t →
    t.pc = 0x0301 ∧ t.beginStep.recognises t.irq = !Config.irqDelayAfterUnmask := by
  intro t h; cases h
  exact ⟨rfl, by simp [State.recognises, requested, State.irq, State.beginStep, setMask, State.pastInstr]⟩

/-! ### The assembler (44_branch.md R246 and Table A-8) -/

theorem test_assemble_bsr : (assemble 0x1000 .bsr none (.addr 0x1052)).map encode = some [0x8D, 0x50] := by decide
theorem test_assemble_direct : (assemble 0 .lda (some .a) (.addr 0x40)).map encode = some [0x96, 0x40] := by decide
theorem test_assemble_extended : (assemble 0 .lda (some .a) (.addr 0x0100)).map encode = some [0xB6, 0x01, 0x00] := by
  decide
theorem test_assemble_bare_x : (assemble 0 .jmp none .bareX).map encode = some [0x6E, 0x00] := by decide
theorem test_assemble_no_immediate_store : assemble 0 .sta (some .a) (.imm 1) = none := by decide

/-! ### The accesses (20_memory.md R55) -/

theorem test_accesses_swi : accesses .swi (loaded 0 0 0 0x0003 0 0xC0 []) =
    [.write 0x0003, .write 0x0002, .write 0x0001, .write 0x0000, .write 0xFFFF, .write 0xFFFE, .write 0xFFFD,
     .read 0xFFFA, .read 0xFFFB] := by
  decide
theorem test_accesses_clr : accesses (.clrExt 0x1234) (loaded 0 0 0 0 0 0xC0 []) = [.write 0x1234] := by decide
theorem test_accesses_inc : accesses (.incInd 0xFF) (loaded 0 0 0xFF80 0 0 0xC0 []) = [.read 0x007F, .write 0x007F] := by
  decide

/-! ### For every statement with hypotheses, what meets them -/

/-- RAM below 0x8000, ROM from 0xF000, a device at 0x8000, nothing between. -/
def sampleMap : MemoryMap := [⟨0x0000, 0x7FFF, .ram⟩, ⟨0x8000, 0x8000, .device⟩, ⟨0xF000, 0xFFFF, .rom⟩]

/-- A machine about to run NOP at 0x0100. -/
def atNop : State := loaded 0x12 0x34 0x5678 0x01FF 0x0100 0xC0 [(0x0100, 0x01)]

/-- A JSR that lies across the top of the address space. -/
def acrossTop : State := loaded 0 0 0 0x01FF 0xFFFE 0xC0 [(0x0000, 0x77), (0xFFFE, 0xBD), (0xFFFF, 0x20)]

theorem witness_DecodeOfEncode : Instr.wellFormed (.cpxImm 0xFFFF) = true := rfl

theorem witness_EncodeOfDecode : decode [0x8D, 0x50, 0x01] = .ok (.bsr 0x50) [0x01] := by decide

theorem witness_FirstByte : decode [0xCE, 0x00, 0x00] = .ok (.ldxImm 0x0000) [] ∧
    decode [0xCE, 0xFF, 0xFF, 0x01] = .ok (.ldxImm 0xFFFF) [0x01] := by
  decide

theorem witness_UnassignedFirstBytes : AboutToFetch State.reset ∧
    State.reset.beginStep.fetchByte State.reset.pc ∈ unassignedOpcodes ∧
    AboutToFetch (loaded 0 0 0 0 0x0100 0xC0 [(0x0100, 0xFD)]) ∧
    (loaded 0 0 0 0 0x0100 0xC0 [(0x0100, 0xFD)]).beginStep.fetchByte 0x0100 ∈ unassignedOpcodes := by
  refine ⟨⟨rfl, by decide⟩, by decide, ⟨rfl, by decide⟩, by decide⟩

theorem witness_WrittenByte : kindAt none 0xFFFF = .ram ∧ (0x0000 : Word) ≠ 0xFFFF ∧
    kindAt (some sampleMap) 0x7FFF = .ram ∧ kindAt (some sampleMap) 0x8000 ≠ .ram ∧
    kindAt (some sampleMap) 0x8001 ≠ .ram ∧ kindAt (some sampleMap) 0xF000 ≠ .ram := by
  decide

theorem witness_WordStore : kindAt atNop.map 0xFFFF = .ram ∧ kindAt atNop.map (0xFFFF + 1) = .ram := by decide

theorem witness_StoreIntoCode : kindAt atNop.map (atNop.ea (.ext 0x0100)) = .ram ∧ atNop.pc = atNop.ea (.ext 0x0100) := by
  decide

theorem witness_StepRuns : AboutToFetch atNop ∧ decode atNop.beginStep.fetchBytes = .ok .nop [] :=
  ⟨⟨rfl, by decide⟩, by decide⟩

theorem witness_EncodingAtPc : AboutToFetch acrossTop ∧
    ∀ k (h : k < (encode (.jsrExt 0x2077)).length),
      acrossTop.beginStep.fetchByte (acrossTop.pc + BitVec.ofNat 16 k) = (encode (.jsrExt 0x2077))[k] :=
  ⟨⟨rfl, by decide⟩, by decide⟩

theorem witness_InterruptEntry : let s := requested atNop [true]
    s.waiting = false ∧ s.irq = true ∧ s.cc.i = false ∧ (Config.irqDelayAfterUnmask = true → s.afterUnmask = false) :=
  ⟨rfl, rfl, rfl, fun _ => rfl⟩

theorem witness_WaitingStep : let s := { requested atNop [true] with waiting := true }
    (s.waiting = true ∧ s.irq = true ∧ s.cc.i = false) ∧
    (let m := { s with cc := { s.cc with i := true } }; m.waiting = true ∧ ¬(m.irq = true ∧ m.cc.i = false)) ∧
    (let m := { s with irqLine := [] }; m.waiting = true ∧ ¬(m.irq = true ∧ m.cc.i = false)) := by
  decide

theorem witness_Recognition : atNop.waiting = false ∧
    (∃ t, exec .cli (readyFor atNop .cli) = .next t ∧ t.cc.i = false) ∧
    ∃ t, exec .tap (readyFor { atNop with accA := 0x10 } .tap) = .next t ∧ t.cc.i = true :=
  ⟨rfl, ⟨_, rfl, rfl⟩, ⟨_, rfl, rfl⟩⟩

theorem witness_MaskedRequest : (loaded 0 0 0 0 0x0100 0xD0 []).waiting = false ∧
    (loaded 0 0 0 0 0x0100 0xD0 []).cc.i = true := by
  decide

/-- `BRA *`, encoding 20 FE, is D18's own example of (a); the machine of `atNop` goes on. -/
theorem test_D18_bra_to_itself_ends_the_run :
    endsInSelfLoop (loaded 0 0 0 0 0x0100 0xD0 [(0x0100, 0x20), (0x0101, 0xFE)]) = true ∧ endsInSelfLoop atNop = false := by
  decide

/-- A step that takes a recognised request runs no instruction (entry 22), wherever the handler stands. -/
theorem endsInSelfLoop_of_recognises (s : State) (h : s.beginStep.recognises s.irq = true) :
    endsInSelfLoop s = false := by
  unfold endsInSelfLoop
  split <;> simp [h]

theorem witness_MaskedWait : endsInDeadWait { loaded 0 0 0 0 0x0100 0xD0 [] with waiting := true } = true := by decide

theorem witness_StepKeepsTheInvariant : Inv atNop ∧ (next? atNop).isSome = true ∧
    Inv { atNop with waiting := true } ∧ (next? { atNop with waiting := true }).isSome = true := by
  unfold Inv; decide

theorem witness_ResetSets : LocationKind.holdsData (kindAt (some sampleMap) 0xFFFE) = true ∧
    LocationKind.holdsData (kindAt (some sampleMap) 0xFFFF) = true ∧
    (State.powerOn none (some sampleMap) [(0xFFFE, 0xF0), (0xFFFF, 0x10)] []).pc = 0xF010 := by decide

theorem witness_ResetMeets : Memory.wf [(0x0000, 0x01), (0xFFFF, 0xFF)] = true := by decide

theorem witness_OnlyListed : (0x0001 : Word) ∉ writtenAddresses (.stxExt 0xFFFF) atNop ∧
    kindAt (some sampleMap) 0xF000 ≠ .ram ∧ (∃ t, exec (.stxExt 0xFFFF) atNop = .next t) ∧
    ∃ t, exec (.clrExt 0xF000) { atNop with map := some sampleMap } = .next t :=
  ⟨by decide, by decide, ⟨_, rfl⟩, ⟨_, rfl⟩⟩

theorem witness_ReadOnly : kindAt (some sampleMap) 0xF000 = .rom ∧ kindAt (some sampleMap) 0xFFFF = .rom ∧
    (next? { atNop with map := some sampleMap }).isSome = true := by
  decide

theorem witness_UnlistedFlags : (∃ t, exec .inx atNop = .next t) ∧ (flagsTouched (mnemonicOf .inx)).getD 0 true = false ∧
    (flagsTouched (mnemonicOf .inx)).getD 5 true = false :=
  ⟨⟨_, rfl⟩, rfl, rfl⟩

theorem witness_RegistersChange :
    (∃ t, exec (.ldaAImm 0xFF) atNop = .next t ∧ t.accA ≠ atNop.accA) ∧
    (∃ t, exec .tab atNop = .next t ∧ t.accB ≠ atNop.accB) ∧ (∃ t, exec .inx atNop = .next t ∧ t.ix ≠ atNop.ix) ∧
    (∃ t, exec .des atNop = .next t ∧ t.sp ≠ atNop.sp) ∧ (∃ t, exec (.jmpExt 0) atNop = .next t ∧ t.pc ≠ atNop.pc) ∧
    ∃ t, exec .wai atNop = .next t ∧ t.waiting ≠ atNop.waiting :=
  ⟨⟨_, rfl, by decide⟩, ⟨_, rfl, by decide⟩, ⟨_, rfl, by decide⟩, ⟨_, rfl, by decide⟩, ⟨_, rfl, by decide⟩,
   ⟨_, rfl, by decide⟩⟩

theorem witness_BranchesDecide :
    (∃ t, ComparedBy { atNop with accA := 0x80 } t 0x80 0x7F) ∧ ∃ t, ComparedBy atNop t 0x12 0x34 :=
  ⟨⟨_, .inl ⟨.a, .imm 0x7F, rfl, rfl, .inl rfl⟩⟩, ⟨_, .inr ⟨rfl, rfl, .inl rfl⟩⟩⟩

/-- Also where the stack wraps past address 0. -/
theorem witness_ReturnFollowsTheCall : ∃ s t w : State, StackIsRam s 2 ∧ mnemonicOf (.bsr 0x50) = .bsr ∧
    exec (.bsr 0x50) s = .next t ∧ s.sp = 0x0000 ∧ w.sp = t.sp ∧
    ∀ k ∈ ([1, 2] : List Word), w.readByte (w.sp + k) = t.readByte (w.sp + k) :=
  ⟨{ atNop with sp := 0x0000 }, _, _, fun _ _ => rfl, rfl, rfl, rfl, rfl, fun _ _ => rfl⟩

theorem witness_ReturnFromInterrupt : StackIsRam (requested atNop [true]) 7 ∧
    (∃ t, exec .swi (requested atNop [true]) = .next t) ∧ (∃ t, exec .wai (requested atNop [true]) = .next t) ∧
    (requested atNop [true]).waiting = false ∧
    (requested atNop [true]).beginStep.recognises (requested atNop [true]).irq = true ∧
    ∀ t : State, ∃ w : State, w.sp = t.sp ∧
      ∀ k ∈ ([1, 2, 3, 4, 5, 6, 7] : List Word), w.readByte (w.sp + k) = t.readByte (w.sp + k) := by
  refine ⟨fun _ _ => rfl, ⟨_, rfl⟩, ⟨_, rfl⟩, rfl, ?_, fun t => ⟨t, rfl, fun _ _ => rfl⟩⟩
  simp [State.recognises, requested, atNop, loaded, State.reset, State.powerOn, State.irq, CC.ofByte]

theorem witness_DaaFollowsItsTable : InDaaRow false (0x99 / 16) false (0x99 % 16) (false, (0, 9), false, (0, 9), 0x00, false) ∧
    InDaaRow true (0x33 / 16) true (0x33 % 16) (true, (0, 3), true, (0, 3), 0x66, true) ∧
    ∀ row ∈ daaRows, ¬InDaaRow true (0xFF / 16) true (0xFF % 16) row := by
  unfold InDaaRow; decide

theorem witness_DaaGivesTheDecimalSum : IsBcd 0x99 ∧ IsBcd 0x00 ∧
    (∃ t, exec .aba { atNop with accA := 0x99, accB := 0x99 } = .next t) ∧
    ∃ t, exec (adcForm .a (.imm 0x99)) { atNop with accA := 0x99 } = .next t := by
  refine ⟨by unfold IsBcd; decide, by unfold IsBcd; decide, ⟨_, rfl⟩, ⟨_, rfl⟩⟩

theorem witness_AssembledBranch : (∃ f, operatorOf .bsr = .branch f) ∧
    (assemble 0x1000 .bsr none (.addr 0x1081)).isSome = true ∧ (assemble 0x1000 .bsr none (.addr 0x1082)).isSome = false ∧
    (assemble 0x1000 .bsr none (.addr 0x0F82)).isSome = true ∧ (assemble 0x1000 .bsr none (.addr 0x0F81)).isSome = false :=
  ⟨⟨_, rfl⟩, by decide, by decide, by decide, by decide⟩

theorem witness_DirectAndExtended : (∃ f, operatorOf .lda = .dual f) ∧ (∃ f, operatorOf .sta = .storeAcc f) ∧
    (∃ f, operatorOf .cpx = .load16 f) ∧ (∃ f, operatorOf .stx = .store16 f) ∧
    (assemble 0 .lda (some .b) (.addr 255)).map encode = some [0xD6, 0xFF] ∧
    (assemble 0 .lda (some .b) (.addr 256)).map encode = some [0xF6, 0x01, 0x00] ∧
    (assemble 0 .sta (some .a) (.addr 255)).map encode = some [0x97, 0xFF] ∧
    (assemble 0 .sta (some .a) (.addr 65535)).map encode = some [0xB7, 0xFF, 0xFF] ∧
    (assemble 0 .cpx none (.addr 255)).map encode = some [0x9C, 0xFF] ∧
    (assemble 0 .cpx none (.addr 256)).map encode = some [0xBC, 0x01, 0x00] ∧
    (assemble 0 .stx none (.addr 0)).map encode = some [0xDF, 0x00] ∧
    (assemble 0 .stx none (.addr 256)).map encode = some [0xFF, 0x01, 0x00] :=
  ⟨⟨_, rfl⟩, ⟨_, rfl⟩, ⟨_, rfl⟩, ⟨_, rfl⟩, by decide, by decide, by decide, by decide, by decide, by decide, by decide,
    by decide⟩

theorem witness_NoStepReadsTheTime : (next? atNop).isSome = true ∧
    step { atNop with pc := 0x0000, mem := [] } = .refused (.illegalOpcode 0x00) := ⟨by decide, rfl⟩

end Sys2Proof.Tests
end

section
/-! The flags of `add8` and `sub8`: each one as a fact about numbers (00_scope.md R10, R11), and each one as the
source's Boolean formula over bits 3 and 7 of the operands and of the result (10_state.md R28, R33). Bits are read as
comparisons of numbers, so every flag comes down to linear arithmetic. -/

namespace Sys2Proof.Machine

/-! ### Bits of a byte as comparisons -/

theorem byte_getLsbD_three (b : Byte) : b.getLsbD 3 = decide (8 ≤ b.toNat % 16) := by
  rw [BitVec.getLsbD, Nat.testBit_eq_decide_div_mod_eq, decide_eq_decide]; omega

theorem byte_getLsbD_seven (b : Byte) : b.getLsbD 7 = decide (128 ≤ b.toNat) := by
  have := b.isLt
  rw [BitVec.getLsbD, Nat.testBit_eq_decide_div_mod_eq, decide_eq_decide]; omega

theorem byte_msb_eq_getLsbD (b : Byte) : b.msb = b.getLsbD 7 := BitVec.msb_eq_getLsbD_last b

/-- A byte as a two's complement number: 256 less when bit 7 is set. -/
theorem byte_toInt (b : Byte) : b.toInt = if 128 ≤ b.toNat then (b.toNat : Int) - 256 else b.toNat := by
  rw [BitVec.toInt_eq_toNat_cond]; split <;> split <;> omega

/-! ### The sum (R10) -/

theorem add8_val_toNat (x m : Byte) (cin : Bool) :
    (add8 x m cin).val.toNat = (x.toNat + m.toNat + cin.toNat) % 256 := BitVec.toNat_ofNat _ 8

theorem add8_h_iff (x m : Byte) (cin : Bool) :
    (add8 x m cin).h = true ↔ x.toNat % 16 + m.toNat % 16 + cin.toNat > 15 := decide_eq_true_iff

theorem add8_c_iff (x m : Byte) (cin : Bool) :
    (add8 x m cin).c = true ↔ x.toNat + m.toNat + cin.toNat > 255 := decide_eq_true_iff

/-- V is overflow by signs: operands of one sign, a result of the other. -/
theorem add8_v_iff_signs (x m : Byte) (cin : Bool) :
    (add8 x m cin).v = true ↔
      (x.getLsbD 7 = m.getLsbD 7 ∧ (add8 x m cin).val.getLsbD 7 ≠ x.getLsbD 7) := by
  simp [add8, byte_msb_eq_getLsbD]

/-- V is two's complement overflow: the exact signed sum is no byte. -/
theorem add8_v_iff_overflow (x m : Byte) (cin : Bool) :
    (add8 x m cin).v = true ↔
      (x.toInt + m.toInt + cin.toNat < -128 ∨ 127 < x.toInt + m.toInt + cin.toNat) := by
  have hr := add8_val_toNat x m cin
  have hx := x.isLt
  have hm := m.isLt
  have hc := cin.toNat_le
  simp only [add8_v_iff_signs, byte_getLsbD_seven, byte_toInt, ne_eq, decide_eq_decide]
  split <;> split <;> omega

/-- H by its formula: bit 3 was set in two of x, m and the complement of the result. -/
theorem add8_h_formula (x m : Byte) (cin : Bool) :
    (add8 x m cin).h =
      ((x.getLsbD 3 && m.getLsbD 3) || (m.getLsbD 3 && !(add8 x m cin).val.getLsbD 3) ||
        (!(add8 x m cin).val.getLsbD 3 && x.getLsbD 3)) := by
  have hr := add8_val_toNat x m cin
  have hc := cin.toNat_le
  rw [Bool.eq_iff_iff, add8_h_iff]
  simp only [byte_getLsbD_three, Bool.or_eq_true, Bool.and_eq_true, Bool.not_eq_true', decide_eq_true_eq,
    decide_eq_false_iff_not]
  omega

/-- C by its formula: bit 7 was set in two of x, m and the complement of the result. -/
theorem add8_c_formula (x m : Byte) (cin : Bool) :
    (add8 x m cin).c =
      ((x.getLsbD 7 && m.getLsbD 7) || (m.getLsbD 7 && !(add8 x m cin).val.getLsbD 7) ||
        (!(add8 x m cin).val.getLsbD 7 && x.getLsbD 7)) := by
  have hr := add8_val_toNat x m cin
  have hx := x.isLt
  have hm := m.isLt
  have hc := cin.toNat_le
  rw [Bool.eq_iff_iff, add8_c_iff]
  simp only [byte_getLsbD_seven, Bool.or_eq_true, Bool.and_eq_true, Bool.not_eq_true', decide_eq_true_eq,
    decide_eq_false_iff_not]
  omega

theorem add8_v_formula (x m : Byte) (cin : Bool) :
    (add8 x m cin).v =
      ((x.getLsbD 7 && m.getLsbD 7 && !(add8 x m cin).val.getLsbD 7) ||
        (!x.getLsbD 7 && !m.getLsbD 7 && (add8 x m cin).val.getLsbD 7)) := by
  rw [Bool.eq_iff_iff, add8_v_iff_signs]
  cases x.getLsbD 7 <;> cases m.getLsbD 7 <;> simp

theorem add8_n (x m : Byte) (cin : Bool) : (add8 x m cin).n = (add8 x m cin).val.getLsbD 7 :=
  byte_msb_eq_getLsbD _

theorem add8_z (x m : Byte) (cin : Bool) : (add8 x m cin).z = decide ((add8 x m cin).val = 0) := rfl

/-! ### The difference (R11) -/

theorem sub8_val_toNat (x m : Byte) (bin : Bool) :
    ((sub8 x m bin).val.toNat : Int) = ((x.toNat : Int) - m.toNat - bin.toNat) % 256 := by
  simp only [sub8, BitVec.toNat_ofInt]
  omega

/-- C is the borrow: the subtrahend with the borrow taken in is larger than the minuend. -/
theorem sub8_c_iff (x m : Byte) (bin : Bool) :
    (sub8 x m bin).c = true ↔ m.toNat + bin.toNat > x.toNat := by
  simp only [sub8, decide_eq_true_eq]
  omega

/-- V is overflow by signs: operands of two signs, a result not of the minuend's. -/
theorem sub8_v_iff_signs (x m : Byte) (bin : Bool) :
    (sub8 x m bin).v = true ↔
      (x.getLsbD 7 ≠ m.getLsbD 7 ∧ (sub8 x m bin).val.getLsbD 7 ≠ x.getLsbD 7) := by
  simp [sub8, byte_msb_eq_getLsbD]

/-- V is two's complement overflow: the exact signed difference is no byte. -/
theorem sub8_v_iff_overflow (x m : Byte) (bin : Bool) :
    (sub8 x m bin).v = true ↔
      (x.toInt - m.toInt - bin.toNat < -128 ∨ 127 < x.toInt - m.toInt - bin.toNat) := by
  have hr := sub8_val_toNat x m bin
  have hx := x.isLt
  have hm := m.isLt
  have hb := bin.toNat_le
  simp only [sub8_v_iff_signs, byte_getLsbD_seven, byte_toInt, ne_eq, decide_eq_decide]
  split <;> split <;> omega

/-- C by its formula: bit 7 was set in two of the complement of x, m and the result. -/
theorem sub8_c_formula (x m : Byte) (bin : Bool) :
    (sub8 x m bin).c =
      ((!x.getLsbD 7 && m.getLsbD 7) || (m.getLsbD 7 && (sub8 x m bin).val.getLsbD 7) ||
        ((sub8 x m bin).val.getLsbD 7 && !x.getLsbD 7)) := by
  have hr := sub8_val_toNat x m bin
  have hx := x.isLt
  have hm := m.isLt
  have hb := bin.toNat_le
  rw [Bool.eq_iff_iff, sub8_c_iff]
  simp only [byte_getLsbD_seven, Bool.or_eq_true, Bool.and_eq_true, Bool.not_eq_true', decide_eq_true_eq,
    decide_eq_false_iff_not]
  omega

theorem sub8_v_formula (x m : Byte) (bin : Bool) :
    (sub8 x m bin).v =
      ((x.getLsbD 7 && !m.getLsbD 7 && !(sub8 x m bin).val.getLsbD 7) ||
        (!x.getLsbD 7 && m.getLsbD 7 && (sub8 x m bin).val.getLsbD 7)) := by
  rw [Bool.eq_iff_iff, sub8_v_iff_signs]
  cases x.getLsbD 7 <;> cases m.getLsbD 7 <;> simp

theorem sub8_n (x m : Byte) (bin : Bool) : (sub8 x m bin).n = (sub8 x m bin).val.getLsbD 7 :=
  byte_msb_eq_getLsbD _

theorem sub8_z (x m : Byte) (bin : Bool) : (sub8 x m bin).z = decide ((sub8 x m bin).val = 0) := rfl

/-! ### The two flag updates by the source's formulae -/

open Sys2Proof.Claims

theorem CC.ofSum_eq_sumCC (c : CC) (x m : Byte) (cin : Bool) :
    c.ofSum (add8 x m cin) = sumCC c x m (add8 x m cin).val := by
  rw [CC.ofSum, add8_h_formula, add8_n, add8_z, add8_v_formula, add8_c_formula]
  rfl

theorem CC.ofDifference_eq_differenceCC (c : CC) (x m : Byte) (bin : Bool) :
    c.ofDifference (sub8 x m bin) = differenceCC c x m (sub8 x m bin).val := by
  rw [CC.ofDifference, sub8_n, sub8_z, sub8_v_formula, sub8_c_formula]
  rfl

end Sys2Proof.Machine

namespace Sys2Proof.Proofs

open Sys2Proof.Machine

/-- Settles O6: the numeric reading of each flag, then all five at once by the formulae. -/
theorem additionFlagsEqualTheFormulae : Obligations.AdditionFlagsEqualTheFormulae :=
  fun x m cin => ⟨add8_val_toNat x m cin, add8_h_iff x m cin, add8_c_iff x m cin, add8_v_iff_overflow x m cin,
    add8_v_iff_signs x m cin, fun c => CC.ofSum_eq_sumCC c x m cin⟩

/-- Settles O7: the numeric reading of each flag, then all four at once by the formulae. -/
theorem subtractionFlagsEqualTheFormulae : Obligations.SubtractionFlagsEqualTheFormulae :=
  fun x m bin => ⟨sub8_val_toNat x m bin, sub8_c_iff x m bin, sub8_v_iff_overflow x m bin,
    sub8_v_iff_signs x m bin, fun c => CC.ofDifference_eq_differenceCC c x m bin⟩

end Sys2Proof.Proofs
end

section
/-! The decoder undoes the encoder (30_encoding.md R80, R81): the map's cell for the first byte of an encoding builds
the instruction from the operand bytes that follow. -/

namespace Sys2Proof

open Machine (hi8 lo8 wordOf wordOf_hi8_lo8)

/-- A layout, given exactly these operand bytes, makes this instruction (R81; a word high byte first, R84, R86). -/
inductive Layout.Builds : Layout → List Byte → Instr → Prop
  | bare (i : Instr) : Builds (.bare i) [] i
  | byte (f : Byte → Instr) (b : Byte) : Builds (.byte f) [b] (f b)
  | word (f : Word → Instr) (w : Word) : Builds (.word f) [hi8 w, lo8 w] (f w)

/-- The encoding of every instruction begins with the byte whose cell of the map builds it. -/
theorem encode_builds (i : Instr) :
    ∃ op operands l, encode i = op :: operands ∧ layoutOf op = some l ∧ l.Builds operands i := by
  cases i <;> exact ⟨_, _, _, rfl, rfl, by constructor⟩

theorem decode_of_builds {op : Byte} {operands : List Byte} {l : Layout} {i : Instr} (hl : layoutOf op = some l)
    (hb : l.Builds operands i) (rest : List Byte) : decode (op :: operands ++ rest) = .ok i rest := by
  cases hb <;> simp [decode, hl]

theorem operandCount_of_builds {op : Byte} {operands : List Byte} {l : Layout} {i : Instr} (hl : layoutOf op = some l)
    (hb : l.Builds operands i) : operandCount op = operands.length := by
  cases hb <;> simp [operandCount, hl]

/-- Decoding an encoding gives the instruction back and leaves what follows it. -/
theorem decode_encode_append (i : Instr) (rest : List Byte) : decode (encode i ++ rest) = .ok i rest := by
  obtain ⟨op, operands, l, he, hl, hb⟩ := encode_builds i
  rw [he, decode_of_builds hl hb]

end Sys2Proof
end

section
/-! A step of a machine that is about to fetch runs the instruction at PC (00_scope.md R14): what it fetches, what
that decodes to, and the state it runs in. -/

namespace Sys2Proof.Machine

open Sys2Proof.Claims

/-- The state past an instruction is the one that the claims name, when the bytes fetched are its encoding. -/
theorem State.pastInstr_beginStep {s : State} {i : Instr} (h : encode i = s.beginStep.fetchBytes) :
    s.beginStep.pastInstr i = readyFor s i := by
  rw [State.pastInstr, ← h]
  rfl

theorem step_of_decode {s : State} {i : Instr} {rest : List Byte} (hs : AboutToFetch s)
    (hd : decode s.beginStep.fetchBytes = .ok i rest) : step s = exec i (s.beginStep.pastInstr i) := by
  obtain ⟨hwaiting, hquiet⟩ := hs
  simp [step, hwaiting, hquiet, hd]

/-- Fetches from `a` on find these bytes, one after another at ascending addresses mod 65536 (20_memory.md R52,
R61). -/
def State.FetchesFrom (s : State) (a : Word) (bytes : List Byte) : Prop :=
  ∀ k (h : k < bytes.length), s.fetchByte (a + BitVec.ofNat 16 k) = bytes[k]

theorem State.FetchesFrom.head {s : State} {a : Word} {b : Byte} {bytes : List Byte}
    (h : s.FetchesFrom a (b :: bytes)) : s.fetchByte a = b := by
  have h0 := h 0 (Nat.zero_lt_succ _)
  rwa [BitVec.add_zero] at h0

theorem State.FetchesFrom.tail {s : State} {a : Word} {b : Byte} {bytes : List Byte}
    (h : s.FetchesFrom a (b :: bytes)) : s.FetchesFrom (a + 1) bytes := by
  intro k hk
  have haddr : a + 1 + BitVec.ofNat 16 k = a + BitVec.ofNat 16 (k + 1) := by
    rw [BitVec.add_assoc, BitVec.add_comm 1, BitVec.ofNat_add]
    rfl
  rw [haddr]
  exact h (k + 1) (Nat.succ_lt_succ hk)

theorem State.FetchesFrom.fetchOperands {s : State} {a : Word} {bytes : List Byte} (h : s.FetchesFrom a bytes) :
    s.fetchOperands a bytes.length = bytes := by
  induction bytes generalizing a with
  | nil => rfl
  | cons b bytes ih => rw [List.length_cons, State.fetchOperands, h.head, ih h.tail]

/-- An encoding that lies at PC is what is fetched, neither less nor more: its first byte names its length (R14). -/
theorem State.FetchesFrom.fetchBytes {s : State} {i : Instr} (h : s.FetchesFrom s.pc (encode i)) :
    s.fetchBytes = encode i := by
  obtain ⟨op, operands, l, he, hl, hb⟩ := encode_builds i
  rw [he] at h ⊢
  simp only [State.fetchBytes, h.head, operandCount_of_builds hl hb, h.tail.fetchOperands]

end Sys2Proof.Machine

namespace Sys2Proof.Proofs

open Sys2Proof.Machine

/-- Settles O13: what is fetched is the whole encoding of what it decodes to, or begins with an unassigned byte. -/
theorem stepRunsTheDecodedInstruction : Obligations.StepRunsTheDecodedInstruction := by
  intro s i rest hs hd
  rcases s.beginStep.decode_fetchBytes with ⟨_, hrejected⟩ | ⟨j, hj, hencode⟩
  · rw [hrejected] at hd
    cases hd
  · obtain ⟨rfl, rfl⟩ : j = i ∧ [] = rest := by simpa [hj] using hd
    exact ⟨rfl, rfl, (step_of_decode hs hd).trans (by rw [State.pastInstr_beginStep hencode])⟩

/-- Settles O14: the bytes fetched are the encoding, which decodes to the instruction; the rest is O13. -/
theorem encodingAtPcIsExecuted : Obligations.EncodingAtPcIsExecuted := by
  intro s i hs hbytes
  have hfetch : s.beginStep.fetchBytes = encode i := State.FetchesFrom.fetchBytes hbytes
  have hdecode : decode s.beginStep.fetchBytes = .ok i [] := by
    simpa [hfetch] using decode_encode_append i []
  obtain ⟨_, _, hstep⟩ := stepRunsTheDecodedInstruction s i [] hs hdecode
  exact hstep

end Sys2Proof.Proofs
end

section
/-! The condition codes as a byte (10_state.md R27), read bit by bit: each fact about `toByte` and `ofByte` is eight
facts about single bits. -/

namespace Sys2Proof.Machine

open Sys2Proof.Claims (bitByte)

/-- The bits of `CCbyte()`, from bit 0 upwards: C V Z N I H 1 1. -/
def CC.bits (c : CC) : List Bool := [c.c, c.v, c.z, c.n, c.i, c.h, true, true]

theorem CC.toByte_getElem (c : CC) {k : Nat} (hk : k < 8) : c.toByte[k] = c.bits[k] := by
  rw [← BitVec.getLsbD_eq_getElem, CC.toByte]
  simp only [BitVec.getLsbD_append]
  interval_cases k <;> simp [CC.bits]

theorem bitByte_getElem (b : Bool) {k : Nat} (hk : k < 8) : (bitByte b)[k] = (decide (k = 0) && b) := by
  cases b <;> simp [bitByte]

/-- `CCbyte()` as the bits in their places (R27). -/
theorem CC.toByte_eq (c : CC) :
    c.toByte = 0xC0 ||| (bitByte c.h <<< 5) ||| (bitByte c.i <<< 4) ||| (bitByte c.n <<< 3) |||
      (bitByte c.z <<< 2) ||| (bitByte c.v <<< 1) ||| bitByte c.c := by
  refine BitVec.eq_of_getElem_eq fun k hk => ?_
  rw [CC.toByte_getElem c hk]
  interval_cases k <;> simp [CC.bits, bitByte_getElem]

theorem CC.ofByte_toByte (c : CC) : CC.ofByte c.toByte = c := by
  simp [CC.ofByte, CC.toByte_getElem, CC.bits]

/-- Bits 7 and 6 come back as 1, whatever they were. -/
theorem CC.toByte_ofByte (b : Byte) : (CC.ofByte b).toByte = 0xC0 ||| (b &&& 0x3F) := by
  refine BitVec.eq_of_getElem_eq fun k hk => ?_
  rw [CC.toByte_getElem _ hk]
  interval_cases k <;> simp [CC.bits, CC.ofByte]

theorem CC.ofByte_or_C0 (b : Byte) : CC.ofByte (b ||| 0xC0) = CC.ofByte b := by
  simp [CC.ofByte]

end Sys2Proof.Machine

namespace Sys2Proof.Proofs

open Sys2Proof.Machine

/-- Settles O8: the four facts about single bits, put together. -/
theorem conditionCodesAsAByte : Obligations.ConditionCodesAsAByte :=
  ⟨CC.toByte_eq, CC.ofByte_toByte, fun b => ⟨CC.toByte_ofByte b, CC.ofByte_or_C0 b⟩⟩

end Sys2Proof.Proofs
end

section
/-! A step that fetches depends on the request input only through the state that is left once its sample is used up,
and a masked machine that is not waiting always fetches (10_state.md R29, 60_exceptions.md R303). -/

namespace Sys2Proof.Machine

open Sys2Proof.Claims

theorem State.recognises_of_masked {s : State} (hi : s.cc.i = true) (irq : Bool) : s.recognises irq = false := by
  simp [State.recognises, hi]

theorem aboutToFetch_of_masked {s : State} (hw : s.waiting = false) (hi : s.cc.i = true) : AboutToFetch s :=
  ⟨hw, State.recognises_of_masked (s := s.beginStep) hi s.irq⟩

/-- Two machines about to fetch that agree once the sample is used up take the same step. -/
theorem step_congr_of_aboutToFetch {s t : State} (hs : AboutToFetch s) (ht : AboutToFetch t)
    (hst : s.beginStep = t.beginStep) : step s = step t := by
  obtain ⟨hsw, hsq⟩ := hs
  obtain ⟨htw, htq⟩ := ht
  rw [hst] at hsq
  simp [step, hst, htw, hsq, htq]

end Sys2Proof.Machine

namespace Sys2Proof.Proofs

open Sys2Proof.Machine

/-- Settles O19: under I = 1 either sample leaves the machine about to fetch, in the same state. -/
theorem maskedRequestDoesNotDivert : Obligations.MaskedRequestDoesNotDivert :=
  fun _ _ _ _ hw hi =>
    step_congr_of_aboutToFetch (aboutToFetch_of_masked hw hi) (aboutToFetch_of_masked hw hi) rfl

end Sys2Proof.Proofs
end

section
/-! What an instruction can write (10_state.md R21 to R25, R34), said once: `Writes` lists the ten shapes that the
state after an instruction has, each with the mnemonics and the flag row that allow it; `exec_writes` finds the shape
of every instruction. The frame of a flag or a register is then a case split over ten shapes. -/

namespace Sys2Proof.Machine

open Sys2Proof.Claims

/-! ### Rows of the flag table -/

/-- From `c` to `d` only flags change that a row of the flag table lists, in the order H I N Z V C (R34). -/
def RowKeeps (row : List Bool) (c d : CC) : Prop :=
  ∀ k < 6, row.getD k true = false → (ccList d)[k]? = (ccList c)[k]?

/-- A row flag by flag. -/
theorem rowKeeps_iff {h i n z v c : Bool} {d e : CC} :
    RowKeeps [h, i, n, z, v, c] d e ↔
      (h = false → e.h = d.h) ∧ (i = false → e.i = d.i) ∧ (n = false → e.n = d.n) ∧
      (z = false → e.z = d.z) ∧ (v = false → e.v = d.v) ∧ (c = false → e.c = d.c) := by
  simp only [RowKeeps, ccList, Nat.forall_lt_succ_left]
  simp

theorem RowKeeps.refl {row : List Bool} {c : CC} : RowKeeps row c c := fun _ _ _ => rfl

/-- A row that lists all six flags allows any change. -/
theorem RowKeeps.all {c d : CC} : RowKeeps [true, true, true, true, true, true] c d := by
  simp [rowKeeps_iff]

theorem RowKeeps.ofSum {c : CC} {o : Arith8} : RowKeeps [true, false, true, true, true, true] c (c.ofSum o) := by
  simp [rowKeeps_iff, CC.ofSum]

/-- The rows that list N, Z, V, C allow any change that leaves H and I. -/
theorem RowKeeps.nzvc {c d : CC} (hh : d.h = c.h) (hi : d.i = c.i) :
    RowKeeps [false, false, true, true, true, true] c d := by
  simp [rowKeeps_iff, hh, hi]

/-- The rows that list N, Z, V allow any change that leaves H, I and C. -/
theorem RowKeeps.nzv {c d : CC} (hh : d.h = c.h) (hi : d.i = c.i) (hc : d.c = c.c) :
    RowKeeps [false, false, true, true, true, false] c d := by
  simp [rowKeeps_iff, hh, hi, hc]

theorem RowKeeps.onlyI {c : CC} {b : Bool} :
    RowKeeps [false, true, false, false, false, false] c { c with i := b } := by
  simp [rowKeeps_iff]

theorem RowKeeps.onlyZ {c : CC} {b : Bool} :
    RowKeeps [false, false, false, true, false, false] c { c with z := b } := by
  simp [rowKeeps_iff]

theorem RowKeeps.onlyV {c : CC} {b : Bool} :
    RowKeeps [false, false, false, false, true, false] c { c with v := b } := by
  simp [rowKeeps_iff]

theorem RowKeeps.onlyC {c : CC} {b : Bool} :
    RowKeeps [false, false, false, false, false, true] c { c with c := b } := by
  simp [rowKeeps_iff]

/-! ### The writers of each register -/

/-- The mnemonics of which one form writes ACCA and another ACCB (R21, R22). -/
def eitherAccWriters : List Mnemonic :=
  [.pul, .adc, .add, .and, .eor, .lda, .ora, .sbc, .sub, .asl, .asr, .clr, .com, .dec, .inc, .lsr, .neg, .rol, .ror]

/-- The writers of an accumulator: R21 for ACCA, R22 for ACCB. -/
def accWriters : Acc → List Mnemonic
  | .a => [.aba, .sba, .tba, .tpa, .daa, .rti] ++ eitherAccWriters
  | .b => [.tab, .rti] ++ eitherAccWriters

/-- The writers of IX (R23). -/
def ixWriters : List Mnemonic := [.ldx, .dex, .inx, .tsx, .rti]

/-- The writers of SP (R24). -/
def spWriters : List Mnemonic := [.psh, .pul, .bsr, .jsr, .rts, .rti, .swi, .wai, .des, .ins, .lds, .txs]

/-- The writers of PC (R25). -/
def pcWriters : List Mnemonic :=
  [.bra, .bcc, .bcs, .beq, .bge, .bgt, .bhi, .ble, .bls, .blt, .bmi, .bne, .bpl, .bvc, .bvs, .bsr, .jmp, .jsr, .rts,
    .swi, .rti]

theorem mem_accWriters_of_either {m : Mnemonic} (h : m ∈ eitherAccWriters) (r : Acc) : m ∈ accWriters r := by
  cases r <;> exact List.mem_append_right _ h

theorem accWriters_subset (r : Acc) : accWriters r ⊆ [.aba, .sba, .tab, .tba, .tpa, .daa, .pul, .rti, .adc, .add,
    .and, .eor, .lda, .ora, .sbc, .sub, .asl, .asr, .clr, .com, .dec, .inc, .lsr, .neg, .rol, .ror] := by
  cases r <;> decide

/-- TAB writes only ACCB (R22). -/
theorem ne_tab_of_mem_accWriters_a : ∀ {m : Mnemonic}, m ∈ accWriters .a → m ≠ .tab := by
  decide

/-- Five mnemonics write only ACCA (R21). -/
theorem not_mem_of_mem_accWriters_b : ∀ {m : Mnemonic}, m ∈ accWriters .b →
    m ∉ ([.aba, .sba, .tba, .tpa, .daa] : List Mnemonic) := by
  decide

/-! ### The shapes of the state after an instruction -/

/-- The state after an instruction of mnemonic `m` in state `s`. -/
inductive Writes (s : State) (m : Mnemonic) : State → Prop
  /-- flags only, and the mark that CLI and TAP leave (60_exceptions.md R303) -/
  | flags (c : CC) (mark : Bool) (hc : RowKeeps (flagsTouched m) s.cc c) :
      Writes s m { s with cc := c, afterUnmask := mark }
  /-- an accumulator and flags -/
  | acc (r : Acc) (v : Byte) (c : CC) (hm : m ∈ accWriters r) (hc : RowKeeps (flagsTouched m) s.cc c) :
      Writes s m { s.setAcc r v with cc := c }
  /-- memory and flags -/
  | store (mem : Memory) (c : CC) (hc : RowKeeps (flagsTouched m) s.cc c) : Writes s m { s with mem := mem, cc := c }
  /-- IX and flags -/
  | index (v : Word) (c : CC) (hm : m ∈ ixWriters) (hc : RowKeeps (flagsTouched m) s.cc c) :
      Writes s m { s with ix := v, cc := c }
  /-- SP, what a push stores, and flags -/
  | stack (mem : Memory) (sp : Word) (c : CC) (hm : m ∈ spWriters) (hc : RowKeeps (flagsTouched m) s.cc c) :
      Writes s m { s with mem := mem, sp := sp, cc := c }
  /-- PUL: SP and an accumulator -/
  | pull (r : Acc) (v : Byte) (sp : Word) (hm : m = .pul) : Writes s m ({ s with sp := sp }.setAcc r v)
  /-- PC -/
  | jump (pc : Word) (hm : m ∈ pcWriters) : Writes s m { s with pc := pc }
  /-- SP and PC, what a push stores, and flags -/
  | call (mem : Memory) (sp pc : Word) (c : CC) (hsp : m ∈ spWriters) (hpc : m ∈ pcWriters)
      (hc : RowKeeps (flagsTouched m) s.cc c) : Writes s m { s with mem := mem, sp := sp, pc := pc, cc := c }
  /-- WAI: the frame is stored and the machine waits -/
  | wait (mem : Memory) (sp : Word) (hm : m = .wai) : Writes s m { s with mem := mem, sp := sp, waiting := true }
  /-- RTI: the registers of the frame, and SP -/
  | frame (a b : Byte) (ix sp pc : Word) (c : CC) (hm : m = .rti) :
      Writes s m { s with accA := a, accB := b, ix := ix, sp := sp, pc := pc, cc := c }

/-! ### What a shape says of each part of the state -/

theorem State.acc_setAcc_of_ne (s : State) {r q : Acc} (v : Byte) (h : q ≠ r) : (s.setAcc r v).acc q = s.acc q := by
  match r, q with
  | .a, .b | .b, .a => rfl
  | .a, .a | .b, .b => exact absurd rfl h

section
variable {s t : State} {m : Mnemonic}

theorem Writes.rowKeeps (h : Writes s m t) : RowKeeps (flagsTouched m) s.cc t.cc := by
  cases h
  case flags hc | store hc | index hc | stack hc | call hc => exact hc
  case acc hc => exact hc
  case pull r v sp hm => cases r <;> exact .refl
  case jump | wait => exact .refl
  case frame hm => subst hm; exact .all

theorem Writes.mem_accWriters (h : Writes s m t) {q : Acc} (hne : t.acc q ≠ s.acc q) : m ∈ accWriters q := by
  cases h
  case acc r v c hm hc =>
    by_cases hq : q = r
    · exact hq ▸ hm
    · exact absurd (s.acc_setAcc_of_ne v hq) hne
  case pull r v sp hm => subst hm; exact mem_accWriters_of_either (by decide) q
  case frame hm => subst hm; cases q <;> decide
  all_goals exact absurd rfl hne

theorem Writes.mem_ixWriters (h : Writes s m t) (hne : t.ix ≠ s.ix) : m ∈ ixWriters := by
  cases h
  case index hm _ => exact hm
  case frame hm => subst hm; decide
  case acc | pull => simp at hne
  all_goals exact absurd rfl hne

theorem Writes.mem_spWriters (h : Writes s m t) (hne : t.sp ≠ s.sp) : m ∈ spWriters := by
  cases h
  case stack hm _ => exact hm
  case call hm _ _ => exact hm
  case pull hm | wait hm | frame hm => subst hm; decide
  case acc => simp at hne
  all_goals exact absurd rfl hne

theorem Writes.mem_pcWriters (h : Writes s m t) (hne : t.pc ≠ s.pc) : m ∈ pcWriters := by
  cases h
  case jump hm => exact hm
  case call hm _ => exact hm
  case frame hm => subst hm; decide
  case acc | pull => simp at hne
  all_goals exact absurd rfl hne

theorem Writes.eq_wai (h : Writes s m t) (hne : t.waiting ≠ s.waiting) : m = .wai := by
  cases h
  case wait hm => exact hm
  case acc | pull => simp at hne
  all_goals exact absurd rfl hne

end

/-! ### The shape of every instruction -/

/-- The instruction gives a next state, of a shape that its mnemonic allows. -/
def ExecWrites (i : Instr) (s : State) : Prop := ∃ t, exec i s = .next t ∧ Writes s (mnemonicOf i) t

theorem ExecWrites.of {i : Instr} {s t : State} {m : Mnemonic} (he : exec i s = .next t) (hm : mnemonicOf i = m)
    (hw : Writes s m t) : ExecWrites i s := ⟨t, he, hm ▸ hw⟩

section
variable {s : State} {m : Mnemonic}

/-- An accumulator that the form of the mnemonic chooses, and flags. -/
theorem Writes.eitherAcc {r : Acc} {v : Byte} {c : CC} (hm : m ∈ eitherAccWriters)
    (hc : RowKeeps (flagsTouched m) s.cc c) : Writes s m { s.setAcc r v with cc := c } :=
  .acc r v c (mem_accWriters_of_either hm r) hc

/-- What a single-operand instruction writes back goes to an accumulator or to memory (R150). -/
theorem Writes.place {p : Place} {v : Byte} {c : CC} (hm : m ∈ eitherAccWriters)
    (hc : RowKeeps (flagsTouched m) s.cc c) : Writes s m { s.writePlace p v with cc := c } := by
  cases p with
  | acc r => exact .eitherAcc hm hc
  | mem f => exact .store _ c hc

theorem Writes.callTo (target : Word) (hsp : m ∈ spWriters) (hpc : m ∈ pcWriters) :
    Writes s m (callTo target s) := by
  rw [callTo_eq, State.writeBytes_eq]
  exact .call _ _ _ s.cc hsp hpc .refl

end

/-- A branch writes PC where it is taken; one not taken changes nothing (R230). -/
theorem ExecWrites.branch {i : Instr} {s : State} {cond : Bool} {rel : Byte}
    (he : exec i s = .next (branchIf cond rel s)) (hm : pcWriters.contains (mnemonicOf i) = true) : ExecWrites i s := by
  refine ⟨_, he, ?_⟩
  cases cond with
  | true => exact .jump _ (List.contains_iff_mem.mp hm)
  | false => exact .flags s.cc s.afterUnmask .refl

/-- DAA writes ACCA and N, Z, V, C whether a row of its table matches or not (R185). -/
theorem writes_opDaa (s : State) : Writes s .daa (opDaa s) := by
  unfold opDaa
  split
  · exact .acc .a _ _ (by decide) (.nzvc rfl rfl)
  · exact .acc .a _ _ (by decide) (.nzvc rfl rfl)

theorem writes_takeInterrupt (s : State) (pointer : Word) : Writes s .swi (s.takeInterrupt pointer) := by
  rw [State.takeInterrupt_eq, State.writeBytes_eq]
  exact .call _ _ _ _ (by decide) (by decide) .onlyI

theorem writes_wai (s : State) : Writes s .wai { s.pushFrame with waiting := true } := by
  rw [State.pushFrame_eq, State.writeBytes_eq]
  exact .wait _ _ rfl

theorem writes_pullFrame (s : State) : Writes s .rti s.pullFrame := by
  rw [State.pullFrame_eq]
  exact .frame _ _ _ _ _ _ rfl

/-- Every instruction completes with a state of one of the ten shapes. -/
theorem exec_writes (i : Instr) (s : State) : ExecWrites i s := by
  apply instr_by_form (P := fun i => ExecWrites i s)
  case adc => exact fun _ _ => .of (exec_adcForm ..) (mnemonicOf_adcForm ..) (.eitherAcc (by decide) .ofSum)
  case add => exact fun _ _ => .of (exec_addForm ..) (mnemonicOf_addForm ..) (.eitherAcc (by decide) .ofSum)
  case and => exact fun _ _ => .of (exec_andForm ..) (mnemonicOf_andForm ..) (.eitherAcc (by decide) (.nzv rfl rfl rfl))
  case eor => exact fun _ _ => .of (exec_eorForm ..) (mnemonicOf_eorForm ..) (.eitherAcc (by decide) (.nzv rfl rfl rfl))
  case lda => exact fun _ _ => .of (exec_ldaForm ..) (mnemonicOf_ldaForm ..) (.eitherAcc (by decide) (.nzv rfl rfl rfl))
  case ora => exact fun _ _ => .of (exec_oraForm ..) (mnemonicOf_oraForm ..) (.eitherAcc (by decide) (.nzv rfl rfl rfl))
  case sbc => exact fun _ _ => .of (exec_sbcForm ..) (mnemonicOf_sbcForm ..) (.eitherAcc (by decide) (.nzvc rfl rfl))
  case sub => exact fun _ _ => .of (exec_subForm ..) (mnemonicOf_subForm ..) (.eitherAcc (by decide) (.nzvc rfl rfl))
  case bit => exact fun _ _ => .of (exec_bitForm ..) (mnemonicOf_bitForm ..) (.flags _ _ (.nzv rfl rfl rfl))
  case cmp => exact fun _ _ => .of (exec_cmpForm ..) (mnemonicOf_cmpForm ..) (.flags _ _ (.nzvc rfl rfl))
  case sta => exact fun _ _ => .of (exec_staForm ..) (mnemonicOf_staForm ..) (.store _ _ (.nzv rfl rfl rfl))
  case asl => exact fun _ => .of (exec_aslForm ..) (mnemonicOf_aslForm ..) (.place (by decide) (.nzvc rfl rfl))
  case asr => exact fun _ => .of (exec_asrForm ..) (mnemonicOf_asrForm ..) (.place (by decide) (.nzvc rfl rfl))
  case lsr => exact fun _ => .of (exec_lsrForm ..) (mnemonicOf_lsrForm ..) (.place (by decide) (.nzvc rfl rfl))
  case rol => exact fun _ => .of (exec_rolForm ..) (mnemonicOf_rolForm ..) (.place (by decide) (.nzvc rfl rfl))
  case ror => exact fun _ => .of (exec_rorForm ..) (mnemonicOf_rorForm ..) (.place (by decide) (.nzvc rfl rfl))
  case com => exact fun _ => .of (exec_comForm ..) (mnemonicOf_comForm ..) (.place (by decide) (.nzvc rfl rfl))
  case neg => exact fun _ => .of (exec_negForm ..) (mnemonicOf_negForm ..) (.place (by decide) (.nzvc rfl rfl))
  case clr => exact fun _ => .of (exec_clrForm ..) (mnemonicOf_clrForm ..) (.place (by decide) (.nzvc rfl rfl))
  case dec => exact fun _ => .of (exec_decForm ..) (mnemonicOf_decForm ..) (.place (by decide) (.nzv rfl rfl rfl))
  case inc => exact fun _ => .of (exec_incForm ..) (mnemonicOf_incForm ..) (.place (by decide) (.nzv rfl rfl rfl))
  case tst => exact fun _ => .of (exec_tstForm ..) (mnemonicOf_tstForm ..) (.flags _ _ (.nzvc rfl rfl))
  case aba => exact .of rfl rfl (.acc .a _ _ (by decide) .ofSum)
  case sba => exact .of rfl rfl (.acc .a _ _ (by decide) (.nzvc rfl rfl))
  case cba => exact .of rfl rfl (.flags _ _ (.nzvc rfl rfl))
  case tab => exact .of rfl rfl (.acc .b s.accA _ (by decide) (.nzv rfl rfl rfl))
  case tba => exact .of rfl rfl (.acc .a _ _ (by decide) (.nzv rfl rfl rfl))
  case daa => exact .of rfl rfl (writes_opDaa s)
  case psh => exact fun _ => .of (exec_pshForm ..) (mnemonicOf_pshForm ..) (.stack _ _ s.cc (by decide) .refl)
  case pul => exact fun r => .of (exec_pulForm ..) (mnemonicOf_pulForm ..) (.pull r _ _ rfl)
  case cpx => exact fun _ => .of (exec_cpxForm ..) (mnemonicOf_cpxForm ..) (.flags _ _ (.nzv rfl rfl rfl))
  case lds => exact fun _ => .of (exec_ldsForm ..) (mnemonicOf_ldsForm ..)
                (.stack s.mem _ _ (by decide) (.nzv rfl rfl rfl))
  case ldx => exact fun _ => .of (exec_ldxForm ..) (mnemonicOf_ldxForm ..) (.index _ _ (by decide) (.nzv rfl rfl rfl))
  case sts => exact fun _ => .of (exec_stsForm ..) (mnemonicOf_stsForm ..) (.store _ _ (.nzv rfl rfl rfl))
  case stx => exact fun _ => .of (exec_stxForm ..) (mnemonicOf_stxForm ..) (.store _ _ (.nzv rfl rfl rfl))
  case des => exact .of rfl rfl (.stack s.mem _ s.cc (by decide) .refl)
  case ins => exact .of rfl rfl (.stack s.mem _ s.cc (by decide) .refl)
  case txs => exact .of rfl rfl (.stack s.mem _ s.cc (by decide) .refl)
  case dex => exact .of rfl rfl (.index _ _ (by decide) .onlyZ)
  case inx => exact .of rfl rfl (.index _ _ (by decide) .onlyZ)
  case tsx => exact .of rfl rfl (.index _ s.cc (by decide) .refl)
  case jmp => exact fun _ => .of (exec_jmpForm ..) (mnemonicOf_jmpForm ..) (.jump _ (by decide))
  case jsr => exact fun _ => .of (exec_jsrForm ..) (mnemonicOf_jsrForm ..) (.callTo _ (by decide) (by decide))
  case bsr => exact fun _ => .of (m := .bsr) rfl rfl (.callTo _ (by decide) (by decide))
  case rts => exact .of rfl rfl (.call s.mem _ _ s.cc (by decide) (by decide) .refl)
  case clc => exact .of rfl rfl (.flags _ _ .onlyC)
  case sec => exact .of rfl rfl (.flags _ _ .onlyC)
  case clv => exact .of rfl rfl (.flags _ _ .onlyV)
  case sev => exact .of rfl rfl (.flags _ _ .onlyV)
  case cli => exact .of rfl rfl (.flags _ _ .onlyI)
  case sei => exact .of rfl rfl (.flags _ _ .onlyI)
  case tap => exact .of rfl rfl (.flags _ _ .all)
  case tpa => exact .of rfl rfl (.acc .a _ s.cc (by decide) .refl)
  case nop => exact .of rfl rfl (.flags s.cc s.afterUnmask .refl)
  case swi => exact .of rfl rfl (writes_takeInterrupt s _)
  case wai => exact .of rfl rfl (writes_wai s)
  case rti => exact .of rfl rfl (writes_pullFrame s)
  -- the fifteen plain branches
  all_goals exact fun rel => .branch (rel := rel) rfl rfl

/-- All that an instruction that completes can have written. -/
theorem writes_of_exec {i : Instr} {s t : State} (h : exec i s = .next t) : Writes s (mnemonicOf i) t := by
  obtain ⟨u, hu, hw⟩ := exec_writes i s
  obtain rfl : u = t := by simpa [hu] using h
  exact hw

end Sys2Proof.Machine

namespace Sys2Proof.Proofs

open Sys2Proof.Machine

/-- Settles O27: every shape keeps the flags that the row of its mnemonic does not list. -/
theorem unlistedFlagsAreUnchanged : Obligations.UnlistedFlagsAreUnchanged :=
  fun _ _ _ h => (writes_of_exec h).rowKeeps

/-- Settles O28: the shape found for the instruction names each register's writers; for the accumulators the lists of
ACCA and of ACCB are then compared with the common one. -/
theorem registersChangeOnlyByTheirWriters : Obligations.RegistersChangeOnlyByTheirWriters := by
  intro i s t h
  have hw := writes_of_exec h
  refine ⟨?_, ?_, ?_, hw.mem_ixWriters, hw.mem_spWriters, hw.mem_pcWriters, hw.eq_wai⟩
  · rintro (ha | hb)
    · exact accWriters_subset .a (hw.mem_accWriters (q := .a) ha)
    · exact accWriters_subset .b (hw.mem_accWriters (q := .b) hb)
  · exact fun ha => ne_tab_of_mem_accWriters_a (hw.mem_accWriters (q := .a) ha)
  · exact fun hb => not_mem_of_mem_accWriters_b (hw.mem_accWriters (q := .b) hb)

end Sys2Proof.Proofs
end

section
/-! A 16-bit store read back (20_memory.md R51, R53): the high byte at the address, the low byte at the next one
mod 65536 (R61). -/

namespace Sys2Proof.Machine

/-- Two addresses one apart are different, also where the second one wraps to 0x0000. -/
theorem word_ne_add_one (a : Word) : a ≠ a + 1 := by bv_omega

/-- What every address reads as after a 16-bit write: the low byte, written last, comes before the high one. -/
theorem State.readByte_writeWord (s : State) (a v b : Word) :
    (s.writeWord a v).readByte b =
      if b = a + 1 ∧ kindAt s.map (a + 1) = .ram then lo8 v
      else if b = a ∧ kindAt s.map a = .ram then hi8 v
      else s.readByte b := by
  simp only [State.writeWord, State.readByte_writeByte, State.writeByte_map]

/-- The byte written last is at another address, so it leaves the high byte where it is. -/
theorem State.readByte_writeWord_hi (s : State) {a : Word} (v : Word) (ha : kindAt s.map a = .ram) :
    (s.writeWord a v).readByte a = hi8 v := by
  rw [State.readByte_writeWord, if_neg (fun h => word_ne_add_one a h.1), if_pos ⟨rfl, ha⟩]

theorem State.readByte_writeWord_lo (s : State) {a : Word} (v : Word) (ha : kindAt s.map (a + 1) = .ram) :
    (s.writeWord a v).readByte (a + 1) = lo8 v := by
  rw [State.readByte_writeWord, if_pos ⟨rfl, ha⟩]

theorem State.readWord_writeWord (s : State) {a : Word} (v : Word) (ha : kindAt s.map a = .ram)
    (ha' : kindAt s.map (a + 1) = .ram) : (s.writeWord a v).readWord a = v := by
  rw [State.readWord, State.readByte_writeWord_hi s v ha, State.readByte_writeWord_lo s v ha', wordOf_hi8_lo8]

end Sys2Proof.Machine

namespace Sys2Proof.Proofs

open Sys2Proof.Machine

/-- Settles O10: each byte of the store as it is read, then the two joined. -/
theorem wordStoreIsBigEndian : Obligations.WordStoreIsBigEndian :=
  fun s _ v ha ha' => ⟨s.readByte_writeWord_hi v ha, s.readByte_writeWord_lo v ha', s.readWord_writeWord v ha ha'⟩

end Sys2Proof.Proofs
end

section
/-! What a decoding says of its bytes (30_encoding.md R80, R81, R92): they begin with the encoding of the instruction
found, and the first of them alone fixes the mnemonic and the length. -/

namespace Sys2Proof

open Machine (Mnemonic mnemonicOf hi8_wordOf lo8_wordOf)

/-- The decoder never reads past what it answers with, nor skips a byte: case by case, what it read is the encoding. -/
theorem encode_append_of_decode_cons {op : Byte} {bytes : List Byte} {i : Instr} {rest : List Byte}
    (h : decode (op :: bytes) = .ok i rest) : encode i ++ rest = op :: bytes := by
  rcases decode_cons_cases op bytes with
    ⟨_, _, hd⟩ | ⟨j, _, _, he, hd⟩ | ⟨f, _, _, he, ⟨_, hd⟩ | ⟨b, r, rfl, hd⟩⟩ |
    ⟨f, _, _, he, ⟨_, hd⟩ | ⟨hi, lo, r, rfl, hd⟩⟩ <;> rw [hd] at h <;> cases h
  · rw [he, List.singleton_append]
  · rw [he, List.cons_append, List.singleton_append]
  · rw [he, hi8_wordOf, lo8_wordOf, List.cons_append, List.cons_append, List.singleton_append]

/-- The mnemonic in a cell of the map (R90), taken at operand 0: `encode_first_byte_fixes` says it is that of every
operand. -/
def Layout.mnemonic : Layout → Mnemonic
  | .bare i => mnemonicOf i
  | .byte f => mnemonicOf (f 0)
  | .word f => mnemonicOf (f 0)

/-- The first byte of an encoding selects a cell with the instruction's mnemonic, and has its length (R92). -/
theorem encode_first_byte_fixes (i : Instr) : ∃ op operands, encode i = op :: operands ∧
    (layoutOf op).map Layout.mnemonic = some (mnemonicOf i) ∧ opcodeLength op = (encode i).length := by
  cases i <;> exact ⟨_, _, rfl, rfl, rfl⟩

theorem decode_first_byte_fixes {op : Byte} {bytes : List Byte} {i : Instr} {rest : List Byte}
    (h : decode (op :: bytes) = .ok i rest) :
    (layoutOf op).map Layout.mnemonic = some (mnemonicOf i) ∧ opcodeLength op = (encode i).length := by
  obtain ⟨op', operands, he, hfixes⟩ := encode_first_byte_fixes i
  obtain ⟨rfl, -⟩ : op' = op ∧ operands ++ rest = bytes := by
    simpa [he] using encode_append_of_decode_cons h
  exact hfixes

end Sys2Proof

namespace Sys2Proof.Proofs

/-- Settles O1: the cell of the map for the first byte of `encode i` builds `i` from the operand bytes; every `i` is
well-formed, so that hypothesis asks nothing. -/
theorem decodeOfEncodeGivesTheInstruction : Obligations.DecodeOfEncodeGivesTheInstruction :=
  fun i rest _ => decode_encode_append i rest

/-- Settles O2: no bytes decode to nothing; otherwise the first byte's cell gives the encoding. -/
theorem encodeOfDecodeGivesTheBytes : Obligations.EncodeOfDecodeGivesTheBytes := by
  intro bytes i rest h
  cases bytes with
  | nil => cases h
  | cons op bytes => exact encode_append_of_decode_cons h

/-- Settles O3: both instructions have the mnemonic of the first byte's cell and the length R92 gives that byte. -/
theorem firstByteFixesMnemonicAndLength : Obligations.FirstByteFixesMnemonicAndLength := by
  intro op rest rest' i i' r r' h h'
  obtain ⟨hm, hlength⟩ := decode_first_byte_fixes h
  obtain ⟨hm', hlength'⟩ := decode_first_byte_fixes h'
  exact ⟨Option.some.inj (hm.symm.trans hm'), hlength.symm.trans hlength', hlength⟩

/-- Settles O5: each word is the encoding of its instruction, so O1 decodes it; the map's cell for 00 is empty. -/
theorem writtenOutWordsDecode : Obligations.WrittenOutWordsDecode :=
  ⟨decode_encode_append .nop [], decode_encode_append (.bsr 0x50) [], decode_encode_append (.jsrExt 0x2077) [],
    decode_encode_append (.ldxImm 0x1234) [], decode_encode_append (.incInd 0xFF) [],
    decode_encode_append (.stsDir 0x20) [], rfl⟩

end Sys2Proof.Proofs
end

section
/-! What the assembler makes of an address (30_encoding.md R95, R97, R99, R100): a relative address for the branches of
Table A-8, a direct or an extended operand for Tables A-1, A-2, A-5 and A-6. -/

namespace Sys2Proof.Machine

open Sys2Proof.Claims

/-! ### Relative addresses -/

/-- The distance from the instruction after a two-byte branch at `pc0` to `dest`, before any wrap (R99). -/
def branchDistance (pc0 : Word) (dest : Nat) : Int := (dest : Int) - ((pc0.toNat : Int) + 2)

theorem relOperand_eq_some_iff {pc0 : Word} {dest : Nat} {rel : Byte} : relOperand pc0 dest = some rel ↔
    (-128 ≤ branchDistance pc0 dest ∧ branchDistance pc0 dest ≤ 127) ∧
      BitVec.ofInt 8 (branchDistance pc0 dest) = rel := by
  simp only [relOperand, branchDistance, Option.ite_none_right_eq_some, Option.some.injEq]

/-- A displacement that fits a byte is the byte's value as a signed number. -/
theorem sext16_ofInt {d : Int} (hlow : -128 ≤ d) (hhigh : d ≤ 127) :
    sext16 (BitVec.ofInt 8 d) = BitVec.ofInt 16 d := by
  have hd : (BitVec.ofInt 8 d).toInt = d := by
    rw [BitVec.toInt_ofInt, Int.bmod_eq_of_le (by omega) (by omega)]
  rw [sext16, BitVec.signExtend, hd]

/-- Going the distance from the next instruction arrives at the destination, mod 65536. -/
theorem add_branchDistance (pc0 : Word) {dest : Nat} (hdest : dest < 65536) :
    (pc0 + 2 + BitVec.ofInt 16 (branchDistance pc0 dest)).toNat = dest := by
  have htwo : (2 : Word).toNat = 2 := rfl
  simp only [BitVec.toNat_add, BitVec.toNat_ofInt, htwo, branchDistance]
  omega

/-- A relative address that there is takes a branch at `pc0` to the address it was made for (R88, R99). -/
theorem branch_reaches_of_relOperand {pc0 : Word} {dest : Nat} {rel : Byte} (hdest : dest < 65536)
    (h : relOperand pc0 dest = some rel) : (pc0 + 2 + sext16 rel).toNat = dest := by
  obtain ⟨⟨hlow, hhigh⟩, rfl⟩ := relOperand_eq_some_iff.mp h
  rw [sext16_ofInt hlow hhigh, add_branchDistance pc0 hdest]

theorem assemble_branch {m : Mnemonic} {f : Byte → Instr} (hm : operatorOf m = .branch f) (pc0 : Word) (dest : Nat) :
    assemble pc0 m none (.addr dest) = (relOperand pc0 dest).map f := by
  simp only [assemble, hm]

/-- A branch is its own mnemonic's, and its second byte is the relative address (R88). -/
theorem branch_of_operatorOf {m : Mnemonic} {f : Byte → Instr} (hm : operatorOf m = .branch f) (rel : Byte) :
    mnemonicOf (f rel) = m ∧ encode (f rel) = [(encode (f rel)).headD 0, rel] := by
  cases m <;> cases hm <;> exact ⟨rfl, rfl⟩

/-! ### The mnemonics of the tables -/

theorem mem_tableA1_iff (m : Mnemonic) :
    m ∈ ([.adc, .add, .and, .bit, .cmp, .eor, .lda, .ora, .sbc, .sub] : List Mnemonic) ↔
      ∃ f, operatorOf m = .dual f := by
  cases m <;> simp [operatorOf]

theorem eq_sta_iff (m : Mnemonic) : m = .sta ↔ ∃ f, operatorOf m = .storeAcc f := by
  cases m <;> simp [operatorOf]

theorem mem_tableA5_iff (m : Mnemonic) :
    m ∈ ([.cpx, .lds, .ldx] : List Mnemonic) ↔ ∃ f, operatorOf m = .load16 f := by
  cases m <;> simp [operatorOf]

theorem mem_tableA6_iff (m : Mnemonic) : m ∈ ([.sts, .stx] : List Mnemonic) ↔ ∃ f, operatorOf m = .store16 f := by
  cases m <;> simp [operatorOf]

/-! ### Direct and extended addresses -/

theorem assemble_dual_addr {m : Mnemonic} {f : Acc → Src8 → Instr} (hm : operatorOf m = .dual f) (pc0 : Word) (r : Acc)
    (n : Nat) : assemble pc0 m (some r) (.addr n) = (eaOperand (.addr n)).map fun e => f r (.mem e) := by
  simp only [assemble, hm, src8Operand, Option.map_map, Function.comp_def]

theorem assemble_storeAcc_addr {m : Mnemonic} {f : Acc → Ea → Instr} (hm : operatorOf m = .storeAcc f) (pc0 : Word)
    (r : Acc) (n : Nat) : assemble pc0 m (some r) (.addr n) = (eaOperand (.addr n)).map (f r) := by
  simp only [assemble, hm]

theorem assemble_load16_addr {m : Mnemonic} {f : Src16 → Instr} (hm : operatorOf m = .load16 f) (pc0 : Word) (n : Nat) :
    assemble pc0 m none (.addr n) = (eaOperand (.addr n)).map fun e => f (.mem e) := by
  simp only [assemble, hm, src16Operand, Option.map_map, Function.comp_def]

theorem assemble_store16_addr {m : Mnemonic} {f : Ea → Instr} (hm : operatorOf m = .store16 f) (pc0 : Word) (n : Nat) :
    assemble pc0 m none (.addr n) = (eaOperand (.addr n)).map f := by
  simp only [assemble, hm]

/-- The length of an instruction with this memory operand: one operand byte, or two for EXTended (R81). -/
def Ea.codeLength : Ea → Nat
  | .dir _ => 2
  | .ext _ => 3
  | .ind _ => 2

/-- Every form of the instruction that a memory operand selects has the length of that operand's mode. -/
def LengthByMode (form : Ea → Instr) : Prop := ∀ e, (encode (form e)).length = e.codeLength

theorem lengthByMode_dual {m : Mnemonic} {f : Acc → Src8 → Instr} (hm : operatorOf m = .dual f) (r : Acc) :
    LengthByMode fun e => f r (.mem e) := by
  intro e
  cases m <;> cases hm <;> cases r <;> cases e <;> rfl

theorem lengthByMode_storeAcc {m : Mnemonic} {f : Acc → Ea → Instr} (hm : operatorOf m = .storeAcc f) (r : Acc) :
    LengthByMode (f r) := by
  obtain rfl := (eq_sta_iff m).mpr ⟨f, hm⟩
  cases hm
  intro e
  cases r <;> cases e <;> rfl

theorem lengthByMode_load16 {m : Mnemonic} {f : Src16 → Instr} (hm : operatorOf m = .load16 f) :
    LengthByMode fun e => f (.mem e) := by
  intro e
  cases m <;> cases hm <;> cases e <;> rfl

theorem lengthByMode_store16 {m : Mnemonic} {f : Ea → Instr} (hm : operatorOf m = .store16 f) : LengthByMode f := by
  intro e
  cases m <;> cases hm <;> cases e <;> rfl

/-- The operand chosen for an address is that address in every state: zero-extended from one byte below 256, spelled
out in two from there on (R85, R86, R100). -/
theorem eaOperand_addr {n : Nat} (hn : n < 65536) : ∃ e, eaOperand (.addr n) = some e ∧
    (∀ s : State, (s.ea e).toNat = n) ∧ e.codeLength = if n < 256 then 2 else 3 := by
  by_cases hshort : n < 256
  · refine ⟨.dir (BitVec.ofNat 8 n), by simp [eaOperand, hshort], fun s => ?_, by rw [if_pos hshort]; rfl⟩
    rw [State.ea, toNat_zext16, BitVec.toNat_ofNat, Nat.mod_eq_of_lt hshort]
  · refine ⟨.ext (BitVec.ofNat 16 n), by simp [eaOperand, wordField, hshort, hn], fun s => ?_,
      by rw [if_neg hshort]; rfl⟩
    rw [State.ea, BitVec.toNat_ofNat, Nat.mod_eq_of_lt hn]

theorem directOrExtended_of_eaOperand {form : Ea → Instr} {n : Nat} {given : Option Instr} (hform : LengthByMode form)
    (hn : n < 65536) (hgiven : given = (eaOperand (.addr n)).map form) : DirectOrExtended form n given := by
  obtain ⟨e, he, haddress, hlength⟩ := eaOperand_addr hn
  exact ⟨e, by rw [hgiven, he, Option.map_some], haddress, by rw [hform, hlength]⟩

end Sys2Proof.Machine

namespace Sys2Proof.Proofs

open Sys2Proof.Machine

/-- Settles O58: there is an instruction exactly when there is a relative address; the one in it arrives. -/
theorem assembledBranchReachesItsDestination : Obligations.AssembledBranchReachesItsDestination := by
  rintro pc0 dest m hdest ⟨f, hm⟩
  rw [assemble_branch hm]
  constructor
  · constructor
    · rintro ⟨i, hi⟩
      obtain ⟨rel, hrel, -⟩ := Option.map_eq_some_iff.mp hi
      exact (relOperand_eq_some_iff.mp hrel).1
    · intro hrange
      exact ⟨_, Option.map_eq_some_iff.mpr ⟨_, relOperand_eq_some_iff.mpr ⟨hrange, rfl⟩, rfl⟩⟩
  · intro i hi
    obtain ⟨rel, hrel, rfl⟩ := Option.map_eq_some_iff.mp hi
    obtain ⟨hmnemonic, hencode⟩ := branch_of_operatorOf hm rel
    exact ⟨rel, hencode, branch_reaches_of_relOperand hdest hrel, hmnemonic⟩

/-- Settles O59: in each of the four tables the address becomes the operand that `eaOperand` chooses, of a form whose
length goes by that operand's mode. -/
theorem directAndExtendedReachTheSameAddress : Obligations.DirectAndExtendedReachTheSameAddress := by
  intro pc0 m n hn
  refine ⟨fun f hm r => ?_, fun f hm r => ?_, fun f hm => ?_, fun f hm => ?_,
    mem_tableA1_iff m, eq_sta_iff m, mem_tableA5_iff m, mem_tableA6_iff m⟩
  · exact directOrExtended_of_eaOperand (lengthByMode_dual hm r) hn (assemble_dual_addr hm pc0 r n)
  · exact directOrExtended_of_eaOperand (lengthByMode_storeAcc hm r) hn (assemble_storeAcc_addr hm pc0 r n)
  · exact directOrExtended_of_eaOperand (lengthByMode_load16 hm) hn (assemble_load16_addr hm pc0 n)
  · exact directOrExtended_of_eaOperand (lengthByMode_store16 hm) hn (assemble_store16_addr hm pc0 n)

end Sys2Proof.Proofs
end

section
/-! The accumulator-and-memory instructions (40_accumulator_memory.md R120 to R131): their opcodes by the digit of their
mnemonic, the state after each one by the source's formulae, and what a list of byte writes stores. -/

namespace Sys2Proof.Machine

open Sys2Proof.Claims

/-! ### Opcodes -/

/-- The digit `k` that a mnemonic of Table A-1 puts in its opcodes (R120); 0 for the others, which have none. -/
def dualDigit : Mnemonic → Byte
  | .sub => 0x0 | .cmp => 0x1 | .sbc => 0x2 | .and => 0x4 | .bit => 0x5
  | .lda => 0x6 | .eor => 0x8 | .adc => 0x9 | .ora => 0xA | .add => 0xB
  | _ => 0x0

theorem dualEncodings_of_operatorOf {m : Mnemonic} {f : Acc → Src8 → Instr} (hm : operatorOf m = .dual f) :
    DualEncodings f (dualDigit m) := by
  cases m <;> cases hm <;>
    exact ⟨fun _ => rfl, fun _ => rfl, ⟨fun _ => rfl, fun _ => rfl, fun _ => rfl⟩,
      ⟨fun _ => rfl, fun _ => rfl, fun _ => rfl⟩⟩

theorem memoryEncodings_staForm_a : MemoryEncodings (staForm .a) 0x97 0xA7 0xB7 :=
  ⟨fun _ => rfl, fun _ => rfl, fun _ => rfl⟩

theorem memoryEncodings_staForm_b : MemoryEncodings (staForm .b) 0xD7 0xE7 0xF7 :=
  ⟨fun _ => rfl, fun _ => rfl, fun _ => rfl⟩

/-! ### Results mod 256 and flags by the formulae -/

theorem bitByte_toNat (b : Bool) : (bitByte b).toNat = b.toNat := by cases b <;> rfl

/-- The sum of R10 is byte addition. -/
theorem add8_val (x m : Byte) (cin : Bool) : (add8 x m cin).val = x + m + bitByte cin := by
  apply BitVec.eq_of_toNat_eq
  rw [add8_val_toNat, BitVec.toNat_add, BitVec.toNat_add, bitByte_toNat]
  omega

theorem add8_val_no_carry (x m : Byte) : (add8 x m false).val = x + m :=
  (add8_val x m false).trans (BitVec.add_zero (x + m))

/-- The difference of R11 is byte subtraction. -/
theorem sub8_val (x m : Byte) (bin : Bool) : (sub8 x m bin).val = x - m - bitByte bin := by
  have hr := sub8_val_toNat x m bin
  have hb := bitByte_toNat bin
  apply BitVec.eq_of_toNat_eq
  rw [BitVec.toNat_sub, BitVec.toNat_sub]
  omega

theorem sub8_val_no_borrow (x m : Byte) : (sub8 x m false).val = x - m :=
  (sub8_val x m false).trans (BitVec.sub_zero (x - m))

theorem CC.ofByteResult_eq (c : CC) (r : Byte) : c.ofByteResult r = { nzOf c r with v := false } := by
  rw [CC.ofByteResult, byte_msb_eq_getLsbD]
  rfl

/-! ### The state after each operation that computes with carry or borrow -/

theorem opAdc_eq (r : Acc) (src : Src8) (s : State) :
    opAdc r src s = { s.setAcc r (s.acc r + s.load8 src + bitByte s.cc.c) with
      cc := sumCC s.cc (s.acc r) (s.load8 src) (s.acc r + s.load8 src + bitByte s.cc.c) } := by
  simp only [opAdc, CC.ofSum_eq_sumCC, add8_val]

theorem opAdd_eq (r : Acc) (src : Src8) (s : State) :
    opAdd r src s = { s.setAcc r (s.acc r + s.load8 src) with
      cc := sumCC s.cc (s.acc r) (s.load8 src) (s.acc r + s.load8 src) } := by
  simp only [opAdd, CC.ofSum_eq_sumCC, add8_val_no_carry]

theorem opSbc_eq (r : Acc) (src : Src8) (s : State) :
    opSbc r src s = { s.setAcc r (s.acc r - s.load8 src - bitByte s.cc.c) with
      cc := differenceCC s.cc (s.acc r) (s.load8 src) (s.acc r - s.load8 src - bitByte s.cc.c) } := by
  simp only [opSbc, CC.ofDifference_eq_differenceCC, sub8_val]

theorem opSub_eq (r : Acc) (src : Src8) (s : State) :
    opSub r src s = { s.setAcc r (s.acc r - s.load8 src) with
      cc := differenceCC s.cc (s.acc r) (s.load8 src) (s.acc r - s.load8 src) } := by
  simp only [opSub, CC.ofDifference_eq_differenceCC, sub8_val_no_borrow]

theorem opCmp_eq (r : Acc) (src : Src8) (s : State) :
    opCmp r src s = { s with cc := differenceCC s.cc (s.acc r) (s.load8 src) (s.acc r - s.load8 src) } := by
  simp only [opCmp, CC.ofDifference_eq_differenceCC, sub8_val_no_borrow]

/-! ### What a list of byte writes stores -/

/-- An instruction whose effect on memory is a list of writes stores these bytes and leaves every other address. -/
theorem Effect.storesBytes {s t : State} {l : List (Word × Byte)} (h : Effect s t l) : StoresBytes s t l := by
  intro a
  have hread : t.readByte a = (s.writeBytes l).readByte a :=
    State.readByte_congr (by rw [h.map, State.writeBytes_map]) h.mem (by rw [h.tick, State.writeBytes_tick]) a
  rw [hread, State.readByte_writeBytes]
  cases l.reverse.find? fun e => e.1 == a with
  | none => rfl
  | some e => exact fun hram => if_pos hram

theorem effect_opSta (r : Acc) (e : Ea) (s : State) : Effect s (opSta r e s) [(s.ea e, s.acc r)] :=
  ⟨rfl, rfl, rfl, rfl, rfl⟩

theorem butMemory_opSta (r : Acc) (e : Ea) (s : State) :
    butMemory s (opSta r e s) = { s with cc := { nzOf s.cc (s.acc r) with v := false } } := by
  rw [← CC.ofByteResult_eq]
  rfl

end Sys2Proof.Machine

namespace Sys2Proof.Proofs

open Sys2Proof.Machine

/-- Settles O29: the model's sum with its flags is the byte sum with the flags of the formulae. -/
theorem adcAndAdd : Obligations.AdcAndAdd :=
  ⟨dualEncodings_of_operatorOf (m := .adc) rfl, dualEncodings_of_operatorOf (m := .add) rfl, fun r src s =>
    ⟨by rw [exec_adcForm, opAdc_eq], by rw [exec_addForm, opAdd_eq]⟩⟩

/-- Settles O30: the model's difference with its flags is the byte difference with the flags of the formulae. -/
theorem sbcSubAndCmp : Obligations.SbcSubAndCmp :=
  ⟨dualEncodings_of_operatorOf (m := .sbc) rfl, dualEncodings_of_operatorOf (m := .sub) rfl,
    dualEncodings_of_operatorOf (m := .cmp) rfl, fun r src s =>
    ⟨by rw [exec_sbcForm, opSbc_eq], by rw [exec_subForm, opSub_eq], by rw [exec_cmpForm, opCmp_eq]⟩⟩

/-- Settles O31: the five operations share one flag update, that of the byte they compute. -/
theorem logicAndLoad : Obligations.LogicAndLoad := by
  refine ⟨dualEncodings_of_operatorOf (m := .and) rfl, dualEncodings_of_operatorOf (m := .eor) rfl,
    dualEncodings_of_operatorOf (m := .ora) rfl, dualEncodings_of_operatorOf (m := .bit) rfl,
    dualEncodings_of_operatorOf (m := .lda) rfl, fun r src s => ?_⟩
  simp only [exec_andForm, exec_eorForm, exec_oraForm, exec_bitForm, exec_ldaForm, opAnd, opEor, opOra, opBit, opLda,
    CC.ofByteResult_eq, and_self]

/-- Settles O32: the effect on memory is one byte write at the effective address; the rest is the flag update. -/
theorem staStoresTheAccumulator : Obligations.StaStoresTheAccumulator :=
  ⟨memoryEncodings_staForm_a, memoryEncodings_staForm_b, fun r e s =>
    ⟨opSta r e s, exec_staForm r e s, butMemory_opSta r e s, (effect_opSta r e s).storesBytes⟩⟩

end Sys2Proof.Proofs
end

section
/-! The single-operand instructions (41_single_operand.md R150 to R161): their opcodes by the digit of their mnemonic,
the byte and the flags that each operation gives in the source's own terms, and how they reach the place. -/

namespace Sys2Proof.Machine

open Sys2Proof.Claims

/-! ### Opcodes -/

/-- The digit `k` that a mnemonic of Table A-3 puts in its opcodes (R150); 0 for the others, which have none. -/
def singleDigit : Mnemonic → Byte
  | .neg => 0x0 | .com => 0x3 | .lsr => 0x4 | .ror => 0x6 | .asr => 0x7 | .asl => 0x8
  | .rol => 0x9 | .dec => 0xA | .inc => 0xC | .tst => 0xD | .clr => 0xF
  | _ => 0x0

theorem singleEncodings_of_operatorOf {m : Mnemonic} {f : Place → Instr} (hm : operatorOf m = .single f) :
    SingleEncodings f (singleDigit m) := by
  cases m <;> cases hm <;> exact ⟨rfl, rfl, fun _ => rfl, fun _ => rfl⟩

/-! ### The shifted byte as a number -/

theorem ofBool_setWidth_toNat (b : Bool) : ((BitVec.ofBool b).setWidth 8).toNat = b.toNat := by cases b <;> rfl

/-- A shift to the left doubles, mod 256. -/
theorem byte_shiftLeft_one (x : Byte) : x <<< 1 = BitVec.ofNat 8 (x.toNat * 2) := by
  apply BitVec.eq_of_toNat_eq
  rw [BitVec.toNat_shiftLeft, BitVec.toNat_ofNat, Nat.shiftLeft_eq, pow_one]

/-- A shift to the right halves. -/
theorem byte_shiftRight_one_toNat (x : Byte) : (x >>> 1).toNat = x.toNat / 2 := by
  rw [BitVec.toNat_ushiftRight, Nat.shiftRight_eq_div_pow, pow_one]

theorem byte_shiftRight_one (x : Byte) : x >>> 1 = BitVec.ofNat 8 (x.toNat / 2) := by
  rw [← byte_shiftRight_one_toNat, BitVec.ofNat_toNat, BitVec.setWidth_eq]

/-- Bit 0 is clear after a shift to the left, so a bit put there adds its value. -/
theorem byte_shiftLeft_one_or_bit (x : Byte) (b : Bool) :
    x <<< 1 ||| (BitVec.ofBool b).setWidth 8 = BitVec.ofNat 8 (x.toNat * 2 + b.toNat) := by
  have hdouble : x.toNat * 2 % 256 = (x.toNat % 128) <<< 1 := by rw [Nat.shiftLeft_eq]; omega
  have hbit : b.toNat < 2 ^ 1 := b.toNat_lt
  apply BitVec.eq_of_toNat_eq
  rw [BitVec.toNat_or, byte_shiftLeft_one, ofBool_setWidth_toNat, BitVec.toNat_ofNat, BitVec.toNat_ofNat, hdouble,
    ← Nat.shiftLeft_add_eq_or_of_lt hbit, Nat.shiftLeft_eq]
  omega

/-- Bit 7 is clear after a shift to the right, so a bit put there adds 128 times its value. -/
theorem byte_shiftRight_one_or_high (x y : Byte) (b : Bool) (hy : y.toNat = 128 * b.toNat) :
    x >>> 1 ||| y = BitVec.ofNat 8 (x.toNat / 2 + 128 * b.toNat) := by
  have hhigh : 128 * b.toNat = b.toNat <<< 7 := by rw [Nat.shiftLeft_eq, Nat.mul_comm]
  have hx := x.isLt
  have hb := b.toNat_le
  have hhalf : x.toNat / 2 < 2 ^ 7 := by omega
  apply BitVec.eq_of_toNat_eq
  rw [BitVec.toNat_or, byte_shiftRight_one_toNat, hy, hhigh, Nat.or_comm, ← Nat.shiftLeft_add_eq_or_of_lt hhalf,
    ← hhigh, BitVec.toNat_ofNat]
  omega

theorem bit_at_seven_toNat (b : Bool) : ((BitVec.ofBool b).setWidth 8 <<< 7).toNat = 128 * b.toNat := by
  cases b <;> rfl

/-- Bit 7 alone, kept in its place. -/
theorem byte_and_high_toNat (x : Byte) : (x &&& 0x80).toNat = 128 * (x.getLsbD 7).toNat :=
  (Nat.and_two_pow x.toNat 7).trans (Nat.mul_comm _ _)

/-- A shift to the right that holds bit 7 halves the signed number, rounding down. -/
theorem byte_arithmetic_shiftRight_one (x : Byte) :
    x >>> 1 ||| (x &&& 0x80) = BitVec.ofInt 8 (x.toInt / 2) := by
  rw [byte_shiftRight_one_or_high x _ _ (byte_and_high_toNat x), byte_getLsbD_seven, byte_toInt]
  have hx := x.isLt
  apply BitVec.eq_of_toNat_eq
  rw [BitVec.toNat_ofNat, BitVec.toNat_ofInt]
  by_cases h : 128 ≤ x.toNat
  · simp only [h, decide_true, Bool.toNat_true, if_true]; omega
  · simp only [h, decide_false, Bool.toNat_false, if_false]; omega

/-! ### The flag updates by the source's formulae -/

theorem CC.ofShift_eq_shiftCC (c : CC) (r : Byte) (out : Bool) : c.ofShift r out = shiftCC c r out := by
  rw [CC.ofShift, byte_msb_eq_getLsbD]
  rfl

theorem CC.ofCount_eq (c : CC) (r : Byte) (v : Bool) : c.ofCount r v = { nzOf c r with v := v } := by
  rw [CC.ofCount, byte_msb_eq_getLsbD]
  rfl

/-- A byte is its own negative at 00 and 80 only, so both bit 7 set before and after negation means 80. -/
theorem byte_neg_v_formula (x : Byte) : (x.getLsbD 7 && (-x).getLsbD 7) = decide (x = 0x80) := by
  have hx := x.isLt
  rw [Bool.eq_iff_iff, Bool.and_eq_true, byte_getLsbD_seven, byte_getLsbD_seven, decide_eq_true_eq, decide_eq_true_eq,
    decide_eq_true_eq, BitVec.toNat_neg, ← BitVec.toNat_inj, show (0x80 : Byte).toNat = 128 from rfl]
  omega

/-- Bit 7 is set before or after negation unless the byte is 00. -/
theorem byte_neg_c_formula (x : Byte) : (x.getLsbD 7 || (-x).getLsbD 7) = decide (x ≠ 0x00) := by
  have hx := x.isLt
  rw [Bool.eq_iff_iff, Bool.or_eq_true, byte_getLsbD_seven, byte_getLsbD_seven, decide_eq_true_eq, decide_eq_true_eq,
    decide_eq_true_eq, BitVec.toNat_neg, ne_eq, ← BitVec.toNat_inj, show (0x00 : Byte).toNat = 0 from rfl]
  omega

/-- The subtraction from zero, its formulae read as comparisons with the operand (R158). -/
theorem differenceCC_zero (c : CC) (x : Byte) :
    differenceCC c 0 x (-x) = { nzOf c (-x) with v := decide (x = 0x80), c := decide (x ≠ 0x00) } := by
  have hzero : (0 : Byte).getLsbD 7 = false := rfl
  rw [← byte_neg_v_formula, ← byte_neg_c_formula, differenceCC, hzero]
  cases x.getLsbD 7 <;> cases (-x).getLsbD 7 <;> rfl

/-! ### Result and flags of each operation -/

theorem aslByte_eq (x : Byte) (c : CC) :
    aslByte x c =
      (BitVec.ofNat 8 (x.toNat * 2), shiftCC c (BitVec.ofNat 8 (x.toNat * 2)) (x.getLsbD 7)) := by
  simp only [aslByte, CC.ofShift_eq_shiftCC, byte_shiftLeft_one, byte_msb_eq_getLsbD]

theorem asrByte_eq (x : Byte) (c : CC) :
    asrByte x c =
      (BitVec.ofInt 8 (x.toInt / 2), shiftCC c (BitVec.ofInt 8 (x.toInt / 2)) (x.getLsbD 0)) := by
  simp only [asrByte, CC.ofShift_eq_shiftCC, byte_arithmetic_shiftRight_one]

theorem lsrByte_eq (x : Byte) (c : CC) :
    lsrByte x c =
      (BitVec.ofNat 8 (x.toNat / 2), shiftCC c (BitVec.ofNat 8 (x.toNat / 2)) (x.getLsbD 0)) := by
  simp only [lsrByte, CC.ofShift_eq_shiftCC, byte_shiftRight_one]

theorem rolByte_eq (x : Byte) (c : CC) :
    rolByte x c =
      (BitVec.ofNat 8 (x.toNat * 2 + c.c.toNat),
        shiftCC c (BitVec.ofNat 8 (x.toNat * 2 + c.c.toNat)) (x.getLsbD 7)) := by
  simp only [rolByte, CC.ofShift_eq_shiftCC, byte_shiftLeft_one_or_bit, byte_msb_eq_getLsbD]

theorem rorByte_eq (x : Byte) (c : CC) :
    rorByte x c =
      (BitVec.ofNat 8 (x.toNat / 2 + 128 * c.c.toNat),
        shiftCC c (BitVec.ofNat 8 (x.toNat / 2 + 128 * c.c.toNat)) (x.getLsbD 0)) := by
  simp only [rorByte, CC.ofShift_eq_shiftCC, byte_shiftRight_one_or_high x _ c.c (bit_at_seven_toNat c.c)]

theorem comByte_eq (x : Byte) (c : CC) : comByte x c = (~~~x, { nzOf c (~~~x) with v := false, c := true }) := by
  have hcomplement : 0xFF - x = ~~~x := BitVec.allOnes_sub_eq_not x
  simp only [comByte, CC.ofByteResult_eq, hcomplement]

/-- NEG judges V and C by its result; negation carries that to the operand. -/
theorem negByte_eq (x : Byte) (c : CC) :
    negByte x c = (-x, { nzOf c (-x) with v := decide (x = 0x80), c := decide (x ≠ 0x00) }) := by
  have hv : (-x == 0x80) = decide (x = 0x80) := decide_eq_decide.mpr neg_eq_iff_eq_neg
  have hc : (-x != 0x00) = decide (x ≠ 0x00) := by
    rw [bne, beq_eq_decide, ← decide_not, decide_eq_decide]
    exact neg_ne_zero
  have hneg : 0 - x = -x := zero_sub x
  simp only [negByte, hneg, hv, hc, byte_msb_eq_getLsbD]
  rfl

theorem incByte_eq (x : Byte) (c : CC) :
    incByte x c = (x + 1, { nzOf c (x + 1) with v := decide (x = 0x7F) }) := by
  rw [incByte, CC.ofCount_eq]
  rfl

theorem decByte_eq (x : Byte) (c : CC) :
    decByte x c = (x - 1, { nzOf c (x - 1) with v := decide (x = 0x80) }) := by
  rw [decByte, CC.ofCount_eq]
  rfl

theorem opTst_eq (p : Place) (s : State) :
    opTst p s = { s with cc := { nzOf s.cc (s.readPlace p) with v := false, c := false } } := by
  rw [opTst, CC.ofByteResult_eq]

/-! ### The result at the place -/

/-- Writing a place back and setting the flags puts the result there: in the accumulator, or by one byte write. -/
theorem putsAtPlace_of_writePlace {i : Instr} {s : State} {p : Place} {res : Byte} {flags : CC}
    (he : exec i s = .next { s.writePlace p res with cc := flags }) : PutsAtPlace i s p res flags := by
  cases p with
  | acc r => exact he
  | mem f =>
    have heffect : Effect s { s.writePlace (.mem f) res with cc := flags } [(s.farEa f, res)] :=
      ⟨rfl, rfl, rfl, rfl, rfl⟩
    exact ⟨_, he, rfl, heffect.storesBytes⟩

/-- The same of an instruction that reads, operates and writes back (R150). -/
theorem putsAtPlace_of_modify {i : Instr} {s : State} {p : Place} {f : Byte → CC → Byte × CC} {res : Byte}
    {flags : CC} (he : exec i s = .next (modify p f s)) (hf : f (s.readPlace p) s.cc = (res, flags)) :
    PutsAtPlace i s p res flags := by
  apply putsAtPlace_of_writePlace
  rw [he, modify, hf]

end Sys2Proof.Machine

namespace Sys2Proof.Proofs

open Sys2Proof.Machine

/-- Settles O33: each shift, written with bits, is the doubling or halving of the operand as a number. -/
theorem shiftsAndRotates : Obligations.ShiftsAndRotates :=
  ⟨singleEncodings_of_operatorOf (m := .asl) rfl, singleEncodings_of_operatorOf (m := .asr) rfl,
    singleEncodings_of_operatorOf (m := .lsr) rfl, singleEncodings_of_operatorOf (m := .rol) rfl,
    singleEncodings_of_operatorOf (m := .ror) rfl, fun p s =>
    ⟨putsAtPlace_of_modify (exec_aslForm p s) (aslByte_eq _ _),
      putsAtPlace_of_modify (exec_asrForm p s) (asrByte_eq _ _),
      putsAtPlace_of_modify (exec_lsrForm p s) (lsrByte_eq _ _),
      putsAtPlace_of_modify (exec_rolForm p s) (rolByte_eq _ _),
      putsAtPlace_of_modify (exec_rorForm p s) (rorByte_eq _ _)⟩⟩

/-- Settles O34: NEG's flags, judged by the result, are those of the subtraction from zero, judged by the operand. -/
theorem complementNegateCount : Obligations.ComplementNegateCount :=
  ⟨singleEncodings_of_operatorOf (m := .com) rfl, singleEncodings_of_operatorOf (m := .neg) rfl,
    singleEncodings_of_operatorOf (m := .inc) rfl, singleEncodings_of_operatorOf (m := .dec) rfl, fun p s =>
    ⟨putsAtPlace_of_modify (exec_comForm p s) (comByte_eq _ _),
      putsAtPlace_of_modify (exec_negForm p s) (negByte_eq _ _),
      differenceCC_zero s.cc (s.readPlace p), putsAtPlace_of_modify (exec_incForm p s) (incByte_eq _ _),
      putsAtPlace_of_modify (exec_decForm p s) (decByte_eq _ _)⟩⟩

/-- Settles O35: CLR writes its place without reading it, TST reads it without writing. -/
theorem clearAndTest : Obligations.ClearAndTest :=
  ⟨singleEncodings_of_operatorOf (m := .clr) rfl, singleEncodings_of_operatorOf (m := .tst) rfl, fun p s =>
    ⟨putsAtPlace_of_writePlace (exec_clrForm p s), by rw [exec_tstForm, opTst_eq]⟩⟩

end Sys2Proof.Proofs
end

section
/-! The accumulator-to-accumulator instructions, DAA, PSH and PUL (42_accumulator_inherent.md R180 to R187): the state
after each one by the source's formulae, the table of DAA as the model looks it up, and the decimal sum it gives. -/

namespace Sys2Proof.Machine

open Sys2Proof.Claims

/-! ### The meaning of each opcode -/

theorem exec_aba (s : State) : exec .aba s = .next (opAba s) := rfl
theorem exec_sba (s : State) : exec .sba s = .next (opSba s) := rfl
theorem exec_cba (s : State) : exec .cba s = .next (opCba s) := rfl
theorem exec_tab (s : State) : exec .tab s = .next (opTab s) := rfl
theorem exec_tba (s : State) : exec .tba s = .next (opTba s) := rfl
theorem exec_daa (s : State) : exec .daa s = .next (opDaa s) := rfl

/-! ### The state after each operation -/

theorem opAba_eq (s : State) :
    opAba s = { s with accA := s.accA + s.accB, cc := sumCC s.cc s.accA s.accB (s.accA + s.accB) } := by
  simp only [opAba, CC.ofSum_eq_sumCC, add8_val_no_carry]

theorem opSba_eq (s : State) :
    opSba s = { s with accA := s.accA - s.accB, cc := differenceCC s.cc s.accA s.accB (s.accA - s.accB) } := by
  simp only [opSba, CC.ofDifference_eq_differenceCC, sub8_val_no_borrow]

theorem opCba_eq (s : State) :
    opCba s = { s with cc := differenceCC s.cc s.accA s.accB (s.accA - s.accB) } := by
  simp only [opCba, CC.ofDifference_eq_differenceCC, sub8_val_no_borrow]

theorem opTab_eq (s : State) :
    opTab s = { s with accB := s.accA, cc := { nzOf s.cc s.accA with v := false } } := by
  rw [opTab, CC.ofByteResult_eq]

theorem opTba_eq (s : State) :
    opTba s = { s with accA := s.accB, cc := { nzOf s.cc s.accB with v := false } } := by
  rw [opTba, CC.ofByteResult_eq]

theorem effect_opPsh (r : Acc) (s : State) : Effect s (opPsh r s) [(s.sp, s.acc r)] :=
  ⟨rfl, rfl, rfl, rfl, rfl⟩

theorem butMemory_opPsh (r : Acc) (s : State) : butMemory s (opPsh r s) = { s with sp := s.sp - 1 } := rfl

theorem opPul_eq (r : Acc) (s : State) :
    opPul r s = { s.setAcc r (s.readByte (s.sp + 1)) with sp := s.sp + 1 } := by
  cases r <;> rfl

/-! ### The table of DAA -/

/-- A row of the model's table, in the order of the columns of R185. -/
def DaaRow.columns (row : DaaRow) : Bool × (Nat × Nat) × Bool × (Nat × Nat) × Byte × Bool :=
  (row.carry, (row.upperFrom, row.upperTo), row.half, (row.lowerFrom, row.lowerTo), row.added, row.carryAfter)

theorem daaRows_eq_columns : daaRows = daaTable.map DaaRow.columns := rfl

theorem daaMatches_iff {c h : Bool} {a : Byte} {row : DaaRow} :
    daaMatches c h a row = true ↔ InDaaRow c (a.toNat / 16) h (a.toNat % 16) row.columns := by
  simp only [daaMatches, InDaaRow, DaaRow.columns, Bool.and_eq_true, beq_iff_eq, decide_eq_true_eq, and_assoc]
  tauto

/-- Two rows that differ in C or H, or whose upper or lower half-bytes have no value in common. -/
def DaaRow.Apart (p q : DaaRow) : Prop :=
  p.carry ≠ q.carry ∨ p.half ≠ q.half ∨ p.upperTo < q.upperFrom ∨ q.upperTo < p.upperFrom ∨
    p.lowerTo < q.lowerFrom ∨ q.lowerTo < p.lowerFrom

theorem daaTable_apart : ∀ p ∈ daaTable, ∀ q ∈ daaTable, p = q ∨ p.Apart q := by
  unfold DaaRow.Apart
  decide

/-- No state lies in two rows. -/
theorem daaMatches_unique {c h : Bool} {a : Byte} {p q : DaaRow} (hp : p ∈ daaTable) (hq : q ∈ daaTable)
    (hmp : daaMatches c h a p = true) (hmq : daaMatches c h a q = true) : p = q := by
  refine (daaTable_apart p hp q hq).resolve_right fun hapart => ?_
  obtain ⟨hpc, hpu, hph, hpl⟩ := daaMatches_iff.mp hmp
  obtain ⟨hqc, hqu, hqh, hql⟩ := daaMatches_iff.mp hmq
  simp only [DaaRow.columns] at hpc hpu hph hpl hqc hqu hqh hql
  rcases hapart with hcarry | hhalf | hupper | hupper | hlower | hlower
  · exact hcarry (hpc.symm.trans hqc)
  · exact hhalf (hph.symm.trans hqh)
  all_goals omega

/-- The row the model finds is the one that matches. -/
theorem daaRow_eq_some {c h : Bool} {a : Byte} {row : DaaRow} (hrow : row ∈ daaTable)
    (hmatch : daaMatches c h a row = true) : daaRow c h a = some row := by
  cases hfound : daaRow c h a with
  | none => exact absurd hmatch (List.find?_eq_none.mp hfound row hrow)
  | some found =>
    exact congrArg some
      (daaMatches_unique (List.mem_of_find?_eq_some hfound) hrow (List.find?_some hfound) hmatch)

/-- DAA inside its table: V alone has no stated value. -/
theorem opDaa_of_row {s : State} {row : DaaRow} (hrow : daaRow s.cc.c s.cc.h s.accA = some row) :
    opDaa s = { s with
      accA := s.accA + row.added
      cc := { nzOf s.cc (s.accA + row.added) with v := Config.daaV s.tick, c := row.carryAfter } } := by
  simp only [opDaa, hrow, byte_msb_eq_getLsbD]
  rfl

/-- DAA outside its table. -/
theorem opDaa_of_no_row {s : State} (hnone : daaRow s.cc.c s.cc.h s.accA = none) :
    ∃ a n z v c, opDaa s = { s with accA := a, cc := { s.cc with n := n, z := z, v := v, c := c } } := by
  simp only [opDaa, hnone]
  exact ⟨_, _, _, _, _, rfl⟩

/-- A row of the table is found from C and H equal to its own and half-bytes in its ranges. -/
theorem daaRow_eq_of_ranges {c h carryAfter : Bool} {a added : Byte} {upperFrom upperTo lowerFrom lowerTo : Nat}
    (hrow : ⟨c, upperFrom, upperTo, h, lowerFrom, lowerTo, added, carryAfter⟩ ∈ daaTable)
    (hupper : upperFrom ≤ a.toNat / 16 ∧ a.toNat / 16 ≤ upperTo)
    (hlower : lowerFrom ≤ a.toNat % 16 ∧ a.toNat % 16 ≤ lowerTo) :
    daaRow c h a = some ⟨c, upperFrom, upperTo, h, lowerFrom, lowerTo, added, carryAfter⟩ :=
  daaRow_eq_some hrow (daaMatches_iff.mpr ⟨rfl, hupper, rfl, hlower⟩)

/-! ### The decimal sum -/

/-- Whether a column of a decimal addition carries into the next one. -/
def digitCarry (n : Nat) : Bool := decide (9 < n)

theorem digitCarry_eq_true_iff {n : Nat} : digitCarry n = true ↔ 9 < n := decide_eq_true_iff

theorem digitCarry_eq_false_iff {n : Nat} : digitCarry n = false ↔ n ≤ 9 := decide_eq_false_iff_not.trans Nat.not_lt

theorem digitCarry_toNat_cases (n : Nat) :
    n ≤ 9 ∧ (digitCarry n).toNat = 0 ∨ 9 < n ∧ (digitCarry n).toNat = 1 := by
  cases hn : digitCarry n
  · exact .inl ⟨digitCarry_eq_false_iff.mp hn, rfl⟩
  · exact .inr ⟨digitCarry_eq_true_iff.mp hn, rfl⟩

/-- A row adds 6 for a carry out of the low digits and 60 for one out of the high digits, which is its C. -/
def DaaRow.CorrectsBy (row : DaaRow) (low high : Bool) : Prop :=
  row.added.toNat = 6 * low.toNat + 0x60 * high.toNat ∧ row.carryAfter = high

/-- The nine rows are the ways both columns of a decimal addition can come out. The low digits give no carry, one that
H does not show, or one that H shows; the high digits, with the carry that H has not yet brought in, the same with C. -/
theorem exists_daaRow_correctsBy {c h low high : Bool} {a : Byte}
    (hlow : h = false ∧ low = false ∧ a.toNat % 16 ≤ 9 ∨ h = false ∧ low = true ∧ 10 ≤ a.toNat % 16 ∨
      h = true ∧ low = true ∧ a.toNat % 16 ≤ 3)
    (hhigh : c = false ∧ high = false ∧ a.toNat / 16 + low.toNat ≤ 9 + h.toNat ∨
      c = false ∧ high = true ∧ 10 + h.toNat ≤ a.toNat / 16 + low.toNat ∨
      c = true ∧ high = true ∧ a.toNat / 16 ≤ 2 + h.toNat) :
    ∃ row, daaRow c h a = some row ∧ row.CorrectsBy low high := by
  have ha := a.isLt
  rcases hlow with ⟨rfl, rfl, hlower⟩ | ⟨rfl, rfl, hlower⟩ | ⟨rfl, rfl, hlower⟩ <;>
    simp only [Bool.toNat_false, Bool.toNat_true] at hhigh <;>
    rcases hhigh with ⟨rfl, rfl, hupper⟩ | ⟨rfl, rfl, hupper⟩ | ⟨rfl, rfl, hupper⟩
  -- no low carry
  · exact ⟨⟨false, 0x0, 0x9, false, 0x0, 0x9, 0x00, false⟩,
      daaRow_eq_of_ranges (by decide) (by omega) (by omega), rfl, rfl⟩
  · exact ⟨⟨false, 0xA, 0xF, false, 0x0, 0x9, 0x60, true⟩,
      daaRow_eq_of_ranges (by decide) (by omega) (by omega), rfl, rfl⟩
  · exact ⟨⟨true, 0x0, 0x2, false, 0x0, 0x9, 0x60, true⟩,
      daaRow_eq_of_ranges (by decide) (by omega) (by omega), rfl, rfl⟩
  -- a low carry that H does not show
  · exact ⟨⟨false, 0x0, 0x8, false, 0xA, 0xF, 0x06, false⟩,
      daaRow_eq_of_ranges (by decide) (by omega) (by omega), rfl, rfl⟩
  · exact ⟨⟨false, 0x9, 0xF, false, 0xA, 0xF, 0x66, true⟩,
      daaRow_eq_of_ranges (by decide) (by omega) (by omega), rfl, rfl⟩
  · exact ⟨⟨true, 0x0, 0x2, false, 0xA, 0xF, 0x66, true⟩,
      daaRow_eq_of_ranges (by decide) (by omega) (by omega), rfl, rfl⟩
  -- a low carry that H shows
  · exact ⟨⟨false, 0x0, 0x9, true, 0x0, 0x3, 0x06, false⟩,
      daaRow_eq_of_ranges (by decide) (by omega) (by omega), rfl, rfl⟩
  · exact ⟨⟨false, 0xA, 0xF, true, 0x0, 0x3, 0x66, true⟩,
      daaRow_eq_of_ranges (by decide) (by omega) (by omega), rfl, rfl⟩
  · exact ⟨⟨true, 0x0, 0x3, true, 0x0, 0x3, 0x66, true⟩,
      daaRow_eq_of_ranges (by decide) (by omega) (by omega), rfl, rfl⟩

/-- `c` and `h` are C and H after the binary sum `a` of two operands whose digits add up to `hi` and `lo`. -/
theorem daaRow_of_digit_sums {c h : Bool} {a : Byte} {hi lo : Nat} (hhi : hi ≤ 18) (hlo : lo ≤ 19)
    (ha : a.toNat = (16 * hi + lo) % 256) (hh : h = decide (lo > 15)) (hc : c = decide (16 * hi + lo > 255)) :
    ∃ row, daaRow c h a = some row ∧ row.CorrectsBy (digitCarry lo) (digitCarry (hi + (digitCarry lo).toNat)) := by
  have hhalf : h.toNat = lo / 16 := by
    cases h with
    | false =>
      have hle := of_decide_eq_false hh.symm
      rw [Bool.toNat_false]
      omega
    | true =>
      have hgt := of_decide_eq_true hh.symm
      rw [Bool.toNat_true]
      omega
  have hlow := digitCarry_toNat_cases lo
  apply exists_daaRow_correctsBy
  · simp only [hh, digitCarry_eq_false_iff, digitCarry_eq_true_iff, decide_eq_false_iff_not, decide_eq_true_eq]
    omega
  · simp only [hc, hhalf, digitCarry_eq_false_iff, digitCarry_eq_true_iff, decide_eq_false_iff_not, decide_eq_true_eq]
    omega

/-- The digits of the corrected sum: 6 makes a low digit carry at 10, 60 a high one. -/
theorem corrected_toNat {a : Byte} {row : DaaRow} {hi lo : Nat} (hhi : hi ≤ 18) (hlo : lo ≤ 19)
    (ha : a.toNat = (16 * hi + lo) % 256)
    (hrow : row.CorrectsBy (digitCarry lo) (digitCarry (hi + (digitCarry lo).toNat))) :
    IsBcd (a + row.added) ∧ 100 * row.carryAfter.toNat + bcdValue (a + row.added) = 10 * hi + lo := by
  obtain ⟨hadded, hcarry⟩ := hrow
  have hlow := digitCarry_toNat_cases lo
  have hhigh := digitCarry_toNat_cases (hi + (digitCarry lo).toNat)
  have hsum := BitVec.toNat_add a row.added
  rw [← hcarry] at hadded hhigh
  rw [IsBcd, bcdValue]
  omega

/-- `t` holds in ACCA, H and C what the addition `x + m + cin` of R10 leaves there. -/
def HoldsSum (t : State) (x m : Byte) (cin : Bool) : Prop :=
  t.accA = (add8 x m cin).val ∧ t.cc.h = (add8 x m cin).h ∧ t.cc.c = (add8 x m cin).c

theorem daa_of_holdsSum {t : State} {x m : Byte} {cin : Bool} (hx : IsBcd x) (hm : IsBcd m)
    (ht : HoldsSum t x m cin) :
    ∃ u, exec .daa t = .next u ∧ IsBcd u.accA ∧
      100 * u.cc.c.toNat + bcdValue u.accA = bcdValue x + bcdValue m + cin.toNat := by
  obtain ⟨hval, hhalf, hcarry⟩ := ht
  obtain ⟨hxhi, hxlo⟩ := hx
  obtain ⟨hmhi, hmlo⟩ := hm
  have hcin := cin.toNat_le
  have hhi : x.toNat / 16 + m.toNat / 16 ≤ 18 := by omega
  have hlo : x.toNat % 16 + m.toNat % 16 + cin.toNat ≤ 19 := by omega
  have hsplit : x.toNat + m.toNat + cin.toNat =
      16 * (x.toNat / 16 + m.toNat / 16) + (x.toNat % 16 + m.toNat % 16 + cin.toNat) := by omega
  have ha := add8_val_toNat x m cin
  rw [← hval, hsplit] at ha
  have hc : t.cc.c = decide (x.toNat + m.toNat + cin.toNat > 255) := hcarry
  rw [hsplit] at hc
  obtain ⟨row, hrow, hcorrects⟩ := daaRow_of_digit_sums hhi hlo ha hhalf hc
  obtain ⟨hbcd, hsum⟩ := corrected_toNat hhi hlo ha hcorrects
  refine ⟨_, exec_daa t, ?_⟩
  rw [opDaa_of_row hrow]
  refine ⟨hbcd, hsum.trans ?_⟩
  rw [bcdValue, bcdValue]
  omega

theorem holdsSum_opAba (s : State) : HoldsSum (opAba s) s.accA s.accB false := ⟨rfl, rfl, rfl⟩

theorem holdsSum_opAdd (src : Src8) (s : State) : HoldsSum (opAdd .a src s) s.accA (s.load8 src) false :=
  ⟨rfl, rfl, rfl⟩

theorem holdsSum_opAdc (src : Src8) (s : State) : HoldsSum (opAdc .a src s) s.accA (s.load8 src) s.cc.c :=
  ⟨rfl, rfl, rfl⟩

/-- Each of the additions that DAA is for leaves the sum of its operands, with the old C for ADC only. -/
theorem holdsSum_of_exec {i : Instr} {s t : State} {m : Byte}
    (hi : (i = .aba ∧ m = s.accB) ∨ ∃ src, (i = addForm .a src ∨ i = adcForm .a src) ∧ m = s.load8 src)
    (ht : exec i s = .next t) : HoldsSum t s.accA m (decide (mnemonicOf i = .adc) && s.cc.c) := by
  rcases hi with ⟨rfl, rfl⟩ | ⟨src, rfl | rfl, rfl⟩
  · rw [exec_aba] at ht
    cases ht
    exact holdsSum_opAba s
  · rw [exec_addForm] at ht
    cases ht
    rw [mnemonicOf_addForm]
    exact holdsSum_opAdd src s
  · rw [exec_adcForm] at ht
    cases ht
    rw [mnemonicOf_adcForm]
    exact holdsSum_opAdc src s

end Sys2Proof.Machine

namespace Sys2Proof.Proofs

open Sys2Proof.Machine Sys2Proof.Claims

/-- Settles O36: the model's sum and difference without carry are the byte operations with the flags of the formulae. -/
theorem abaSbaCba : Obligations.AbaSbaCba :=
  ⟨⟨rfl, rfl⟩, ⟨rfl, rfl⟩, ⟨rfl, rfl⟩, fun s =>
    ⟨by rw [exec_aba, opAba_eq], by rw [exec_sba, opSba_eq], by rw [exec_cba, opCba_eq]⟩⟩

/-- Settles O37: the flags are those of the byte transferred. -/
theorem tabAndTba : Obligations.TabAndTba :=
  ⟨⟨rfl, rfl⟩, ⟨rfl, rfl⟩, fun s => ⟨by rw [exec_tab, opTab_eq], by rw [exec_tba, opTba_eq]⟩⟩

/-- Settles O38: no state lies in two rows, so the row that matches is the one the model finds. -/
theorem daaFollowsItsTable : Obligations.DaaFollowsItsTable := by
  refine ⟨⟨rfl, rfl⟩, fun s => ?_⟩
  rw [daaRows_eq_columns]
  refine ⟨fun columns hcolumns hin => ?_, fun houtside => ?_⟩
  · obtain ⟨row, hrow, rfl⟩ := List.mem_map.mp hcolumns
    exact ⟨_, (exec_daa s).trans (congrArg _ (opDaa_of_row (daaRow_eq_some hrow (daaMatches_iff.mpr hin))))⟩
  · have hnone : daaRow s.cc.c s.cc.h s.accA = none := List.find?_eq_none.mpr fun row hrow hmatch =>
      houtside row.columns (List.mem_map_of_mem hrow) (daaMatches_iff.mp hmatch)
    rw [exec_daa]
    obtain ⟨a, n, z, v, c, heq⟩ := opDaa_of_no_row hnone
    exact ⟨a, n, z, v, c, congrArg _ heq⟩

/-- Settles O39: a push is one byte write at SP; a pull reads the byte above SP. -/
theorem pushAndPull : Obligations.PushAndPull :=
  ⟨⟨rfl, rfl⟩, ⟨rfl, rfl⟩, ⟨rfl, rfl⟩, ⟨rfl, rfl⟩, fun r s =>
    ⟨⟨opPsh r s, exec_pshForm r s, butMemory_opPsh r s, (effect_opPsh r s).storesBytes⟩,
      by rw [exec_pulForm, opPul_eq]⟩⟩

/-- Settles O56: the binary sum of two decimal operands lies in a row of the table, whose number makes each column carry
at ten instead of sixteen. -/
theorem daaGivesTheDecimalSum : Obligations.DaaGivesTheDecimalSum := by
  intro i s t m hi hx hm ht
  obtain ⟨u, hexec, hbcd, hsum⟩ := daa_of_holdsSum hx hm (holdsSum_of_exec hi ht)
  refine ⟨u, hexec, hbcd, hsum.trans ?_⟩
  by_cases hadc : mnemonicOf i = .adc <;> simp [hadc]

end Sys2Proof.Proofs
end

section
/-! The index register and stack pointer instructions other than CPX (43_index_and_stack_pointer.md R202 to R211): the
opcodes and times of the 16-bit loads and stores by mnemonic, the N and Z of a word by the source's formulae, and the
state after each instruction. -/

namespace Sys2Proof.Machine

open Sys2Proof.Claims

/-! ### Opcodes and times -/

/-- The opcode of the IMM form of a mnemonic of Table A-5 (R201 to R203); 0 for the others, which have none. -/
def load16ImmOpcode : Mnemonic → Byte
  | .cpx => 0x8C | .lds => 0x8E | .ldx => 0xCE
  | _ => 0x00

theorem load16Encodings_of_operatorOf {m : Mnemonic} {f : Src16 → Instr} (hm : operatorOf m = .load16 f) :
    Load16Encodings f (load16ImmOpcode m) := by
  cases m <;> cases hm <;>
    exact ⟨fun _ => ⟨rfl, rfl⟩, ⟨fun _ => rfl, fun _ => rfl, fun _ => rfl⟩, fun _ => rfl, fun _ => rfl, fun _ => rfl⟩

/-- The opcode of the DIR form of a mnemonic of Table A-6 (R204, R205); 0 for the others, which have none. -/
def store16DirOpcode : Mnemonic → Byte
  | .sts => 0x9F | .stx => 0xDF
  | _ => 0x00

theorem store16Encodings_of_operatorOf {m : Mnemonic} {f : Ea → Instr} (hm : operatorOf m = .store16 f) :
    Store16Encodings f (store16DirOpcode m) := by
  cases m <;> cases hm <;>
    exact ⟨⟨fun _ => rfl, fun _ => rfl, fun _ => rfl⟩, fun _ => rfl, fun _ => rfl, fun _ => rfl⟩

/-! ### Flags of a word -/

theorem word_msb_eq_getLsbD (w : Word) : w.msb = w.getLsbD 15 := BitVec.msb_eq_getLsbD_last w

theorem CC.ofWordResult_eq (c : CC) (w : Word) : c.ofWordResult w = { nzOf16 c w with v := false } := by
  rw [CC.ofWordResult, word_msb_eq_getLsbD]
  rfl

theorem word_sub_one_beq_zero (w : Word) : (w - 1 == 0) = decide (w = 1) := by
  have hzero : w - 1 = 0 ↔ w = 1 := by bv_omega
  exact decide_eq_decide.mpr hzero

/-- The word that counts up to 0 is the largest one, mod 65536. -/
theorem word_add_one_beq_zero (w : Word) : (w + 1 == 0) = decide (w = 0xFFFF) := by
  have hzero : w + 1 = 0 ↔ w = 0xFFFF := by bv_omega
  exact decide_eq_decide.mpr hzero

/-! ### LDS and LDX -/

/-- The operand word lies high byte first at ea and ea + 1 (R200). -/
theorem State.load16_mem (s : State) (e : Ea) :
    s.load16 (.mem e) = wordOf (s.readByte (s.ea e)) (s.readByte (s.ea e + 1)) := rfl

theorem opLds_eq (src : Src16) (s : State) :
    opLds src s = { s with sp := s.load16 src, cc := { nzOf16 s.cc (s.load16 src) with v := false } } := by
  rw [opLds, CC.ofWordResult_eq]

theorem opLdx_eq (src : Src16) (s : State) :
    opLdx src s = { s with ix := s.load16 src, cc := { nzOf16 s.cc (s.load16 src) with v := false } } := by
  rw [opLdx, CC.ofWordResult_eq]

/-! ### STS and STX -/

theorem effect_opSts (e : Ea) (s : State) :
    Effect s (opSts e s) [(s.ea e, hi8 s.sp), (s.ea e + 1, lo8 s.sp)] :=
  ⟨rfl, rfl, rfl, rfl, rfl⟩

theorem effect_opStx (e : Ea) (s : State) :
    Effect s (opStx e s) [(s.ea e, hi8 s.ix), (s.ea e + 1, lo8 s.ix)] :=
  ⟨rfl, rfl, rfl, rfl, rfl⟩

theorem butMemory_opSts (e : Ea) (s : State) :
    butMemory s (opSts e s) = { s with cc := { nzOf16 s.cc s.sp with v := false } } := by
  rw [← CC.ofWordResult_eq]
  rfl

theorem butMemory_opStx (e : Ea) (s : State) :
    butMemory s (opStx e s) = { s with cc := { nzOf16 s.cc s.ix with v := false } } := by
  rw [← CC.ofWordResult_eq]
  rfl

/-! ### The inherent instructions -/

theorem exec_des (s : State) : exec .des s = .next { s with sp := s.sp - 1 } := rfl
theorem exec_ins (s : State) : exec .ins s = .next { s with sp := s.sp + 1 } := rfl
theorem exec_dex (s : State) : exec .dex s = .next (setIndex (s.ix - 1) s) := rfl
theorem exec_inx (s : State) : exec .inx s = .next (setIndex (s.ix + 1) s) := rfl
theorem exec_tsx (s : State) : exec .tsx s = .next { s with ix := s.sp + 1 } := rfl
theorem exec_txs (s : State) : exec .txs s = .next { s with sp := s.ix - 1 } := rfl

/-- Counting IX down gives zero from 1 only. -/
theorem setIndex_sub_one (s : State) :
    setIndex (s.ix - 1) s = { s with ix := s.ix - 1, cc := { s.cc with z := decide (s.ix = 1) } } := by
  rw [setIndex, word_sub_one_beq_zero]

/-- Counting IX up gives zero from 0xFFFF only. -/
theorem setIndex_add_one (s : State) :
    setIndex (s.ix + 1) s = { s with ix := s.ix + 1, cc := { s.cc with z := decide (s.ix = 0xFFFF) } } := by
  rw [setIndex, word_add_one_beq_zero]

end Sys2Proof.Machine

namespace Sys2Proof.Proofs

open Sys2Proof.Machine

/-- Settles O41: both loads take their operand word from the state before, and share its flag update. -/
theorem ldsAndLdx : Obligations.LdsAndLdx :=
  ⟨load16Encodings_of_operatorOf (m := .lds) rfl, load16Encodings_of_operatorOf (m := .ldx) rfl, fun src s =>
    ⟨s.load16_mem, by rw [exec_ldsForm, opLds_eq], by rw [exec_ldxForm, opLdx_eq]⟩⟩

/-- Settles O42: the effect on memory is two byte writes, at ea and the address after it; the rest is the flag
update. -/
theorem stsAndStx : Obligations.StsAndStx :=
  ⟨store16Encodings_of_operatorOf (m := .sts) rfl, store16Encodings_of_operatorOf (m := .stx) rfl, fun e s =>
    ⟨⟨opSts e s, exec_stsForm e s, butMemory_opSts e s, (effect_opSts e s).storesBytes⟩,
      ⟨opStx e s, exec_stxForm e s, butMemory_opStx e s, (effect_opStx e s).storesBytes⟩⟩⟩

/-- Settles O43: Z after a count is said of IX before it; the other four are their equations. -/
theorem inherentPointerInstructions : Obligations.InherentPointerInstructions :=
  ⟨⟨rfl, rfl⟩, ⟨rfl, rfl⟩, ⟨rfl, rfl⟩, ⟨rfl, rfl⟩, ⟨rfl, rfl⟩, ⟨rfl, rfl⟩, fun s =>
    ⟨exec_des s, exec_ins s, by rw [exec_dex, setIndex_sub_one], by rw [exec_inx, setIndex_add_one], exec_tsx s,
      exec_txs s⟩⟩

end Sys2Proof.Proofs
end

section
/-! The branches (44_branch.md R230 to R247) and the subroutine calls (R246, 45_jump_and_subroutine.md R261): opcodes
and times by mnemonic, the condition of each branch in the terms of its page, what the flags of a difference say about
its operands, and what a call pushes. -/

namespace Sys2Proof.Machine

open Sys2Proof.Claims

/-! ### Opcodes and times -/

/-- The opcode of a mnemonic of Table A-8 (R231 to R246); 0 for the others, which have none. -/
def branchOpcode : Mnemonic → Byte
  | .bra => 0x20 | .bhi => 0x22 | .bls => 0x23 | .bcc => 0x24 | .bcs => 0x25 | .bne => 0x26 | .beq => 0x27
  | .bvc => 0x28 | .bvs => 0x29 | .bpl => 0x2A | .bmi => 0x2B | .bge => 0x2C | .blt => 0x2D | .bgt => 0x2E
  | .ble => 0x2F | .bsr => 0x8D
  | _ => 0x00

/-- The time of a branch: only BSR, which pushes, takes more than 4 cycles (R230, R246). -/
def branchTime : Mnemonic → Nat
  | .bsr => 8
  | _ => 4

theorem branchEncoding_of_operatorOf {m : Mnemonic} {f : Byte → Instr} (hm : operatorOf m = .branch f) :
    BranchEncoding f (branchOpcode m) (branchTime m) := by
  cases m <;> cases hm <;> exact fun _ => ⟨rfl, rfl⟩

/-! ### The condition of each branch -/

section
variable {i : Instr} {rel : Byte} {s : State} {p q : Prop} [Decidable p] [Decidable q]

/-- A plain branch is taken exactly on the proposition that its Boolean condition computes. -/
theorem exec_eq_taken {cond : Bool} (he : exec i s = .next (branchIf cond rel s)) (hp : cond = true ↔ p) :
    exec i s = .next (taken s rel p) :=
  he.trans (congrArg Host.Outcome.next (if_congr hp rfl rfl))

/-- The condition of a branch may be replaced by an equivalent one. -/
theorem exec_taken_congr (he : exec i s = .next (taken s rel p)) (hpq : p ↔ q) : exec i s = .next (taken s rel q) :=
  he.trans (congrArg Host.Outcome.next (if_congr hpq rfl rfl))

end

section
variable (rel : Byte) (s : State)

theorem exec_bra : exec (.bra rel) s = .next { s with pc := s.pc + sext16 rel } := rfl

theorem exec_bcc : exec (.bcc rel) s = .next (taken s rel (s.cc.c = false)) := exec_eq_taken rfl (by simp)
theorem exec_bcs : exec (.bcs rel) s = .next (taken s rel (s.cc.c = true)) := exec_eq_taken rfl .rfl
theorem exec_beq : exec (.beq rel) s = .next (taken s rel (s.cc.z = true)) := exec_eq_taken rfl .rfl
theorem exec_bne : exec (.bne rel) s = .next (taken s rel (s.cc.z = false)) := exec_eq_taken rfl (by simp)
theorem exec_bmi : exec (.bmi rel) s = .next (taken s rel (s.cc.n = true)) := exec_eq_taken rfl .rfl
theorem exec_bpl : exec (.bpl rel) s = .next (taken s rel (s.cc.n = false)) := exec_eq_taken rfl (by simp)
theorem exec_bvc : exec (.bvc rel) s = .next (taken s rel (s.cc.v = false)) := exec_eq_taken rfl (by simp)
theorem exec_bvs : exec (.bvs rel) s = .next (taken s rel (s.cc.v = true)) := exec_eq_taken rfl .rfl

theorem exec_bge : exec (.bge rel) s = .next (taken s rel (s.cc.n = s.cc.v)) := exec_eq_taken rfl (by simp)
theorem exec_blt : exec (.blt rel) s = .next (taken s rel (s.cc.n ≠ s.cc.v)) := exec_eq_taken rfl (by simp)
theorem exec_bgt : exec (.bgt rel) s = .next (taken s rel (s.cc.z = false ∧ s.cc.n = s.cc.v)) :=
  exec_eq_taken rfl (by simp)
theorem exec_ble : exec (.ble rel) s = .next (taken s rel (s.cc.z = true ∨ s.cc.n ≠ s.cc.v)) :=
  exec_eq_taken rfl (by simp)
theorem exec_bhi : exec (.bhi rel) s = .next (taken s rel (s.cc.c = false ∧ s.cc.z = false)) :=
  exec_eq_taken rfl (by simp)
theorem exec_bls : exec (.bls rel) s = .next (taken s rel (s.cc.c = true ∨ s.cc.z = true)) :=
  exec_eq_taken rfl (by simp)

end

/-! ### What the flags of a difference say about its operands -/

/-- Z: the operands are equal, as no two bytes differ by a multiple of 256. -/
theorem sub8_z_iff_eq (x m : Byte) : (sub8 x m false).z = true ↔ x = m := by
  rw [sub8_z, sub8_val_no_borrow, decide_eq_true_iff]
  bv_omega

/-- C: the minuend is the smaller unsigned number. -/
theorem sub8_c_iff_lt (x m : Byte) : (sub8 x m false).c = true ↔ x.toNat < m.toNat := sub8_c_iff x m false

/-- N is the sign of the exact signed difference unless V says that it was lost: where they agree, the difference is
not negative. -/
theorem sub8_n_eq_v_iff_le (x m : Byte) :
    (sub8 x m false).n = (sub8 x m false).v ↔ m.toInt ≤ x.toInt := by
  have hr := sub8_val_toNat x m false
  have hx := x.isLt
  have hm := m.isLt
  rw [Bool.eq_iff_iff, sub8_n, sub8_v_iff_overflow, byte_getLsbD_seven, decide_eq_true_iff, byte_toInt, byte_toInt]
  simp only [Bool.toNat_false] at hr ⊢
  split <;> split <;> omega

/-- The flags that a comparison of `x` with `m` leaves, read as the relations of `x` and `m` (R247). -/
structure CC.Compares (c : CC) (x m : Byte) : Prop where
  z_iff : c.z = true ↔ x = m
  c_iff : c.c = true ↔ x.toNat < m.toNat
  n_eq_v_iff : c.n = c.v ↔ m.toInt ≤ x.toInt

theorem CC.compares_ofDifference (c : CC) (x m : Byte) : (c.ofDifference (sub8 x m false)).Compares x m :=
  ⟨sub8_z_iff_eq x m, sub8_c_iff_lt x m, sub8_n_eq_v_iff_le x m⟩

theorem compares_of_exec {i : Instr} {s t u : State} {x m : Byte} (hu : exec i s = .next u)
    (hcc : u.cc = s.cc.ofDifference (sub8 x m false)) (ht : exec i s = .next t) : t.cc.Compares x m := by
  obtain rfl : u = t := by simpa [hu] using ht
  exact hcc ▸ s.cc.compares_ofDifference x m

/-- CMP, SUB, CBA and SBA set their flags alike, by the difference of their operands without a borrow taken in. -/
theorem compares_of_comparedBy {s t : State} {x m : Byte} (h : ComparedBy s t x m) : t.cc.Compares x m := by
  rcases h with ⟨r, src, rfl, rfl, hcmp | hsub⟩ | ⟨rfl, rfl, hcba | hsba⟩
  · exact compares_of_exec (exec_cmpForm r src s) rfl hcmp
  · exact compares_of_exec (exec_subForm r src s) rfl hsub
  · exact compares_of_exec (exec_cba s) rfl hcba
  · exact compares_of_exec (exec_sba s) rfl hsba

/-! Each condition on the flags of a comparison as its relation (R247). -/

section
variable {c : CC} {x m : Byte}

theorem CC.Compares.z_clear_iff (h : c.Compares x m) : c.z = false ↔ x ≠ m := by
  rw [← Bool.not_eq_true, h.z_iff]

theorem CC.Compares.c_clear_iff (h : c.Compares x m) : c.c = false ↔ m.toNat ≤ x.toNat := by
  rw [← Bool.not_eq_true, h.c_iff, not_lt]

theorem CC.Compares.n_ne_v_iff (h : c.Compares x m) : c.n ≠ c.v ↔ x.toInt < m.toInt := by
  rw [Ne, h.n_eq_v_iff, not_le]

/-- Lower or same: lower by C or the same by Z. -/
theorem CC.Compares.c_or_z_iff (h : c.Compares x m) : c.c = true ∨ c.z = true ↔ x.toNat ≤ m.toNat := by
  rw [h.c_iff, h.z_iff, ← BitVec.toNat_inj, le_iff_lt_or_eq]

/-- Higher: the complement of lower or same. -/
theorem CC.Compares.c_z_clear_iff (h : c.Compares x m) : c.c = false ∧ c.z = false ↔ m.toNat < x.toNat := by
  rw [← not_le, ← h.c_or_z_iff, not_or, Bool.not_eq_true, Bool.not_eq_true]

/-- Less or equal: equal by Z or less by N and V. -/
theorem CC.Compares.z_or_n_ne_v_iff (h : c.Compares x m) : c.z = true ∨ c.n ≠ c.v ↔ x.toInt ≤ m.toInt := by
  rw [h.z_iff, h.n_ne_v_iff, ← BitVec.toInt_inj, le_iff_eq_or_lt]

/-- Greater: the complement of less or equal. -/
theorem CC.Compares.z_clear_and_n_eq_v_iff (h : c.Compares x m) :
    c.z = false ∧ c.n = c.v ↔ m.toInt < x.toInt := by
  rw [← not_le, ← h.z_or_n_ne_v_iff, not_or, Bool.not_eq_true, not_not]

end

/-! ### Calls -/

theorem exec_bsr (rel : Byte) (s : State) : exec (.bsr rel) s = .next (callTo (s.pc + sext16 rel) s) := rfl

theorem effect_callTo (target : Word) (s : State) : Effect s (callTo target s) (returnBytes s) :=
  ⟨rfl, rfl, rfl, rfl, rfl⟩

theorem butMemory_callTo (target : Word) (s : State) :
    butMemory s (callTo target s) = { s with sp := s.sp - 2, pc := target } := by
  rw [callTo_eq, State.writeBytes_eq]
  rfl

/-- An instruction that calls `target` pushes the return address, and besides memory changes only SP and PC. -/
theorem call_of_exec {i : Instr} {target : Word} {s : State} (he : exec i s = .next (callTo target s)) :
    ∃ t, exec i s = .next t ∧ butMemory s t = { s with sp := s.sp - 2, pc := target } ∧
      StoresBytes s t (returnBytes s) :=
  ⟨_, he, butMemory_callTo target s, (effect_callTo target s).storesBytes⟩

end Sys2Proof.Machine

namespace Sys2Proof.Proofs

open Sys2Proof.Machine

/-- Settles O44: BRA has no condition, the other eight each test one flag. -/
theorem branchesOnOneFlag : Obligations.BranchesOnOneFlag :=
  ⟨branchEncoding_of_operatorOf (m := .bra) rfl, branchEncoding_of_operatorOf (m := .bcc) rfl,
    branchEncoding_of_operatorOf (m := .bcs) rfl, branchEncoding_of_operatorOf (m := .beq) rfl,
    branchEncoding_of_operatorOf (m := .bmi) rfl, branchEncoding_of_operatorOf (m := .bne) rfl,
    branchEncoding_of_operatorOf (m := .bpl) rfl, branchEncoding_of_operatorOf (m := .bvc) rfl,
    branchEncoding_of_operatorOf (m := .bvs) rfl, fun rel s =>
    ⟨exec_bra rel s, exec_bcc rel s, exec_bcs rel s, exec_beq rel s, exec_bne rel s, exec_bmi rel s, exec_bpl rel s,
      exec_bvc rel s, exec_bvs rel s⟩⟩

/-- Settles O45: the model's exclusive or of N and V is their being different. -/
theorem branchesOnSeveralFlags : Obligations.BranchesOnSeveralFlags :=
  ⟨branchEncoding_of_operatorOf (m := .bge) rfl, branchEncoding_of_operatorOf (m := .bgt) rfl,
    branchEncoding_of_operatorOf (m := .bhi) rfl, branchEncoding_of_operatorOf (m := .ble) rfl,
    branchEncoding_of_operatorOf (m := .bls) rfl, branchEncoding_of_operatorOf (m := .blt) rfl, fun rel s =>
    ⟨exec_bge rel s, exec_blt rel s, exec_bgt rel s, exec_ble rel s, exec_bhi rel s, exec_bls rel s⟩⟩

/-- Settles O46: the four instructions leave the flags of one difference, and each condition on these flags is a
relation of its operands. -/
theorem branchesDecideTheComparedRelation : Obligations.BranchesDecideTheComparedRelation := by
  intro s t x m rel hcompared
  have h : t.cc.Compares x m := compares_of_comparedBy hcompared
  exact ⟨exec_taken_congr (exec_beq rel t) h.z_iff, exec_taken_congr (exec_bne rel t) h.z_clear_iff,
    exec_taken_congr (exec_bhi rel t) h.c_z_clear_iff, exec_taken_congr (exec_bls rel t) h.c_or_z_iff,
    exec_taken_congr (exec_bcc rel t) h.c_clear_iff, exec_taken_congr (exec_bcs rel t) h.c_iff,
    exec_taken_congr (exec_bge rel t) h.n_eq_v_iff, exec_taken_congr (exec_bgt rel t) h.z_clear_and_n_eq_v_iff,
    exec_taken_congr (exec_ble rel t) h.z_or_n_ne_v_iff, exec_taken_congr (exec_blt rel t) h.n_ne_v_iff⟩

/-- Settles O47: both are the same call, to a target each computes in its own way. -/
theorem bsrAndJsr : Obligations.BsrAndJsr :=
  ⟨branchEncoding_of_operatorOf (m := .bsr) rfl, fun _ => ⟨rfl, rfl⟩, fun _ => ⟨rfl, rfl⟩, fun s =>
    ⟨fun rel => call_of_exec (exec_bsr rel s), fun f => call_of_exec (exec_jsrForm f s)⟩⟩

end Sys2Proof.Proofs
end

section
/-! JMP, and RTS as the return from a call (45_jump_and_subroutine.md R260 to R263): what a pushed word reads back as
byte by byte, the bytes RTS takes its PC from, and why these are the ones that BSR and JSR leave. -/

namespace Sys2Proof.Machine

open Sys2Proof.Claims

/-! ### A pushed word read back -/

theorem State.readByte_push8 (s : State) (v : Byte) (a : Word) :
    (s.push8 v).readByte a = if a = s.sp ∧ kindAt s.map s.sp = .ram then v else s.readByte a :=
  s.readByte_writeByte s.sp a v

theorem word_ne_sub_one (a : Word) : a ≠ a - 1 := by bv_omega

/-- The high byte, pushed last, goes to another address, so it leaves the low byte where it is. -/
theorem State.readByte_push16_lo {s : State} (v : Word) (hram : kindAt s.map s.sp = .ram) :
    (s.push16 v).readByte s.sp = lo8 v := by
  rw [State.push16, State.readByte_push8, if_neg (fun h => word_ne_sub_one s.sp h.1), State.readByte_push8,
    if_pos ⟨rfl, hram⟩]

theorem State.readByte_push16_hi {s : State} (v : Word) (hram : kindAt s.map (s.sp - 1) = .ram) :
    (s.push16 v).readByte (s.sp - 1) = hi8 v := by
  rw [State.push16, State.readByte_push8, if_pos ⟨rfl, hram⟩]

/-! ### RTS -/

theorem exec_rts (s : State) : exec .rts s = .next (opRts s) := rfl

/-- Two pulls: PCH from SP + 1, PCL from SP + 2 (R262). -/
theorem opRts_eq (s : State) :
    opRts s = { s with pc := wordOf (s.readByte (s.sp + 1)) (s.readByte (s.sp + 2)), sp := s.sp + 2 } := by
  have htwo : s.sp + 1 + 1 = s.sp + 2 := by bv_omega
  simp only [opRts, State.pull16, State.pull8, State.readByte, htwo]

/-! ### The return from a call -/

theorem eq_bsr_of_mnemonicOf {i : Instr} (h : mnemonicOf i = .bsr) : ∃ rel, i = .bsr rel := by
  cases i
  case bsr rel => exact ⟨rel, rfl⟩
  all_goals cases h

theorem eq_jsrForm_of_mnemonicOf {i : Instr} (h : mnemonicOf i = .jsr) : ∃ f, i = jsrForm f := by
  cases i
  case jsrInd offset => exact ⟨.ind offset, rfl⟩
  case jsrExt addr => exact ⟨.ext addr, rfl⟩
  all_goals cases h

/-- All that BSR and JSR can do is call a target, the one R246 or R261 names. -/
theorem exists_callTo_of_exec {i : Instr} {s t : State} (hi : mnemonicOf i = .bsr ∨ mnemonicOf i = .jsr)
    (ht : exec i s = .next t) : ∃ target, t = callTo target s := by
  rcases hi with hbsr | hjsr
  · obtain ⟨rel, rfl⟩ := eq_bsr_of_mnemonicOf hbsr
    rw [exec_bsr] at ht
    cases ht
    exact ⟨_, rfl⟩
  · obtain ⟨f, rfl⟩ := eq_jsrForm_of_mnemonicOf hjsr
    rw [exec_jsrForm] at ht
    cases ht
    exact ⟨_, rfl⟩

@[simp] theorem State.callTo_sp (s : State) (target : Word) : (callTo target s).sp = s.sp - 2 := s.push16_sp s.pc

/-- A call with its stack in RAM leaves the return address where RTS looks for it: PCH at the new SP + 1, PCL at the
new SP + 2, mod 65536. -/
theorem readByte_callTo_stacked {s : State} (target : Word) (hram : StackIsRam s 2) :
    (callTo target s).readByte ((callTo target s).sp + 1) = hi8 s.pc ∧
      (callTo target s).readByte ((callTo target s).sp + 2) = lo8 s.pc := by
  have hlo : kindAt s.map s.sp = .ram := by simpa using hram 0 (by decide)
  have hhi : kindAt s.map (s.sp - 1) = .ram := hram 1 (by decide)
  have hone : s.sp - 2 + 1 = s.sp - 1 := by bv_omega
  have htwo : s.sp - 2 + 2 = s.sp := by bv_omega
  rw [State.callTo_sp, hone, htwo]
  exact ⟨State.readByte_push16_hi s.pc hhi, State.readByte_push16_lo s.pc hlo⟩

/-- The return undoes a call: it needs of the state `w` only SP and the two stacked bytes as the call left them. -/
theorem opRts_of_callTo {s w : State} {target : Word} (hram : StackIsRam s 2) (hsp : w.sp = (callTo target s).sp)
    (hbytes : ∀ k ∈ ([1, 2] : List Word), w.readByte (w.sp + k) = (callTo target s).readByte (w.sp + k)) :
    opRts w = { w with pc := s.pc, sp := s.sp } := by
  obtain ⟨hhi, hlo⟩ := readByte_callTo_stacked target hram
  have hpch : w.readByte (w.sp + 1) = hi8 s.pc := by rw [hbytes 1 (by decide), hsp, hhi]
  have hpcl : w.readByte (w.sp + 2) = lo8 s.pc := by rw [hbytes 2 (by decide), hsp, hlo]
  have hback : w.sp + 2 = s.sp := by
    rw [hsp, State.callTo_sp]
    bv_omega
  rw [opRts_eq, hpch, hpcl, hback, wordOf_hi8_lo8]

end Sys2Proof.Machine

namespace Sys2Proof.Proofs

open Sys2Proof.Machine

/-- Settles O48: the two modes of JMP share one rule, of which the statement spells out the address; RTS is two
pulls. -/
theorem jmpAndRts : Obligations.JmpAndRts :=
  ⟨fun _ => ⟨rfl, rfl⟩, fun _ => ⟨rfl, rfl⟩, ⟨rfl, rfl⟩, fun s =>
    ⟨fun w => exec_jmpForm (.ext w) s, fun b => exec_jmpForm (.ind b) s, by rw [exec_rts, opRts_eq]⟩⟩

/-- Settles O49: BSR and JSR are the same call, whose stacked bytes RTS joins to the PC after the call. -/
theorem returnFollowsTheCall : Obligations.ReturnFollowsTheCall := by
  intro i s t w hram hi ht hsp hbytes
  obtain ⟨target, rfl⟩ := exists_callTo_of_exec hi ht
  rw [exec_rts, opRts_of_callTo hram hsp hbytes]

end Sys2Proof.Proofs
end

section
/-! The condition code instructions and NOP (46_condition_code_and_nop.md R270 to R278): one rule per instruction. CLI
and TAP share `setMask`, whose mark says whether the CC written leaves I = 0; TAP and TPA read and write CC as the byte
of R27. -/

namespace Sys2Proof.Machine

open Sys2Proof.Claims (bitByte)

/-! ### One bit of CC, and NOP -/

theorem exec_clc (s : State) : exec .clc s = .next { s with cc := { s.cc with c := false } } := rfl
theorem exec_sec (s : State) : exec .sec s = .next { s with cc := { s.cc with c := true } } := rfl
theorem exec_clv (s : State) : exec .clv s = .next { s with cc := { s.cc with v := false } } := rfl
theorem exec_sev (s : State) : exec .sev s = .next { s with cc := { s.cc with v := true } } := rfl
theorem exec_sei (s : State) : exec .sei s = .next { s with cc := { s.cc with i := true } } := rfl
theorem exec_nop (s : State) : exec .nop s = .next s := rfl

/-! ### The writers of CC that may clear I -/

theorem exec_cli (s : State) : exec .cli s = .next (setMask { s.cc with i := false } s) := rfl
theorem exec_tap (s : State) : exec .tap s = .next (setMask (CC.ofByte s.accA) s) := rfl

/-- A CC written with I = 0 leaves the mark (60_exceptions.md R303). -/
theorem setMask_of_clear {c : CC} (hi : c.i = false) (s : State) :
    setMask c s = { s with cc := c, afterUnmask := true } := by
  simp [setMask, hi]

/-- The mark that a CC taken from a byte leaves depends on bit 4, the place of I (R27). -/
theorem setMask_ofByte (b : Byte) (s : State) :
    setMask (CC.ofByte b) s = { s with cc := CC.ofByte b, afterUnmask := !b.getLsbD 4 } := rfl

/-! ### CC as the source -/

/-- TPA's byte, its bits in their places (R277). -/
theorem exec_tpa (s : State) :
    exec .tpa s = .next { s with
      accA := 0xC0 ||| (bitByte s.cc.h <<< 5) ||| (bitByte s.cc.i <<< 4) ||| (bitByte s.cc.n <<< 3) |||
        (bitByte s.cc.z <<< 2) ||| (bitByte s.cc.v <<< 1) ||| bitByte s.cc.c } := by
  rw [← CC.toByte_eq]
  rfl

end Sys2Proof.Machine

namespace Sys2Proof.Proofs

open Sys2Proof.Machine

/-- Settles O50: CLI alone of the seven goes through `setMask`, with an I it has just cleared. -/
theorem singleBitInstructionsAndNop : Obligations.SingleBitInstructionsAndNop :=
  ⟨⟨rfl, rfl⟩, ⟨rfl, rfl⟩, ⟨rfl, rfl⟩, ⟨rfl, rfl⟩, ⟨rfl, rfl⟩, ⟨rfl, rfl⟩, ⟨rfl, rfl⟩, fun s =>
    ⟨exec_clc s, exec_sec s, exec_clv s, exec_sev s, by rw [exec_cli, setMask_of_clear rfl], exec_sei s, exec_nop s⟩⟩

/-- Settles O51: TAP is `SetCC` of ACCA with its mark, TPA is `CCbyte()` bit by bit. -/
theorem tapAndTpa : Obligations.TapAndTpa :=
  ⟨⟨rfl, rfl⟩, ⟨rfl, rfl⟩, fun s => ⟨by rw [exec_tap, setMask_ofByte, CC.ofByte], exec_tpa s⟩⟩

end Sys2Proof.Proofs
end

section
/-! The step while waiting (60_exceptions.md R305): its two outcomes, and the wait under I = 1, which no step ends
(D16). -/

namespace Sys2Proof.Machine

/-- A request that I does not mask ends the wait. -/
theorem State.waitStep_resume {s : State} {irq : Bool} (h : irq = true ∧ s.cc.i = false) :
    s.waitStep irq = s.resumeFromWait := by
  simp [State.waitStep, h]

theorem State.waitStep_stay {s : State} {irq : Bool} (h : ¬(irq = true ∧ s.cc.i = false)) :
    s.waitStep irq = { s with cycles := s.cycles + Config.waitCycles s.tick } := by
  have hstay : ¬(irq && !s.cc.i) = true := by simpa using h
  exact if_neg hstay

theorem State.waitStep_cases (s : State) (irq : Bool) : s.waitStep irq = s.resumeFromWait ∨
    s.waitStep irq = { s with cycles := s.cycles + Config.waitCycles s.tick } := by
  by_cases h : irq = true ∧ s.cc.i = false
  · exact .inl (State.waitStep_resume h)
  · exact .inr (State.waitStep_stay h)

theorem step_of_waiting {s : State} (h : s.waiting = true) : step s = .next (s.beginStep.waitStep s.irq) :=
  if_pos h

/-- The internal interrupt pointer is 0xFFF8, 0xFFF9 (R305, R306). -/
theorem State.readWord_irqPointer (s : State) : s.readWord irqPointer = wordOf (s.readByte 0xFFF8) (s.readByte 0xFFF9) :=
  rfl

theorem run_succ {s t : State} (h : step s = .next t) (n : Nat) : core.run (n + 1) s = core.run n t := by
  have hcore : core.step s = .next t := h
  simp only [Host.Core.run, hcore]

end Sys2Proof.Machine

namespace Sys2Proof.Proofs

open Sys2Proof.Machine

/-- Settles O17: the two outcomes of the wait, after one sample is used up. -/
theorem waitingStepResumesOrStays : Obligations.WaitingStepResumesOrStays := by
  refine fun s hw => ⟨fun h => ?_, fun h => ⟨Config.waitCycles (s.tick + 1), ?_⟩⟩
  · rw [step_of_waiting hw, State.waitStep_resume (s := s.beginStep) h, State.resumeFromWait, State.enterHandler,
      State.readWord_irqPointer]
    rfl
  · rw [step_of_waiting hw, State.waitStep_stay (s := s.beginStep) h]
    rfl

/-- Settles O20: by induction on the number of steps, as each one is a step of O17 that stays. -/
theorem maskedWaitNeverEnds : Obligations.MaskedWaitNeverEnds := by
  intro n
  induction n with
  | zero => exact fun s _ => ⟨0, rfl⟩
  | succ n ih =>
    intro s hdead
    obtain ⟨hw, hi⟩ : s.waiting = true ∧ s.cc.i = true := by simpa [endsInDeadWait] using hdead
    obtain ⟨k, hstep⟩ := (waitingStepResumesOrStays s hw).2 (by simp [hi])
    obtain ⟨k', hrun⟩ := ih { s with irqLine := s.irqLine.tail, tick := s.tick + 1, cycles := s.cycles + k } hdead
    refine ⟨k + k', ?_⟩
    rw [run_succ hstep, hrun]
    simp only [List.drop_tail, Nat.add_assoc, Nat.add_comm 1 n]

end Sys2Proof.Proofs
end

section
/-! The two fields that belong to the step's bookkeeping alone: the mark that CLI and TAP leave (60_exceptions.md R303)
and the time (70_reset_and_hazards.md R345). No instruction reads either, and only CLI and TAP write the mark; so the
mark shows which instruction came before, and more time behind a machine changes no step. -/

namespace Sys2Proof.Machine

open Sys2Proof.Claims

/-! ### An instruction under another mark and another time -/

/-- The state with this mark and this time in place of its own. -/
def State.withBooks (s : State) (mark : Bool) (time : Nat) : State := { s with afterUnmask := mark, cycles := time }

theorem State.withBooks_self (s : State) : s.withBooks s.afterUnmask s.cycles = s := rfl

/-- The instructions that write the mark: CLI and TAP (R303). -/
def setsMark : Instr → Bool
  | .cli | .tap => true
  | _ => false

theorem setsMark_iff (i : Instr) : setsMark i = true ↔ i = .cli ∨ i = .tap := by
  cases i <;> simp [setsMark]

/-- The instruction completes, and under any other mark and time it completes with the same state, but for the time,
and for the mark unless it writes it. -/
def IgnoresBooks (i : Instr) (s : State) : Prop :=
  ∃ t, exec i s = .next t ∧ ∀ mark time,
    exec i (s.withBooks mark time) = .next (t.withBooks (if setsMark i then t.afterUnmask else mark) time)

theorem branchIf_withBooks (cond : Bool) (rel : Byte) (s : State) (mark : Bool) (time : Nat) :
    branchIf cond rel (s.withBooks mark time) = (branchIf cond rel s).withBooks mark time := by
  cases cond <;> rfl

theorem opDaa_withBooks (s : State) (mark : Bool) (time : Nat) :
    opDaa (s.withBooks mark time) = (opDaa s).withBooks mark time := by
  unfold opDaa
  simp only [State.withBooks]
  cases daaRow s.cc.c s.cc.h s.accA <;> rfl

/-- The meaning of every instruction but DAA and the branches takes each field of its result from the fields of the
state one by one; DAA and a branch first decide on one of two such results. -/
theorem exec_ignoresBooks (i : Instr) (s : State) : IgnoresBooks i s := by
  cases i
  case daa => exact ⟨_, rfl, fun mark time => congrArg Host.Outcome.next (opDaa_withBooks s mark time)⟩
  case bra rel | bcc rel | bcs rel | beq rel | bge rel | bgt rel | bhi rel | ble rel | bls rel | blt rel | bmi rel |
      bne rel | bpl rel | bvc rel | bvs rel =>
    exact ⟨_, rfl, fun mark time => congrArg Host.Outcome.next (branchIf_withBooks _ rel s mark time)⟩
  all_goals exact ⟨_, rfl, fun _ _ => rfl⟩

/-- The mark after an instruction is CLI's or TAP's own, or the one before it. -/
theorem afterUnmask_of_exec {i : Instr} {s t : State} (h : exec i s = .next t) (hi : setsMark i = false) :
    t.afterUnmask = s.afterUnmask := by
  obtain ⟨u, hu, hbooks⟩ := exec_ignoresBooks i s
  obtain rfl : u = t := by simpa [hu] using h
  have hself : u = u.withBooks s.afterUnmask s.cycles := by
    simpa [State.withBooks_self, hu, hi] using hbooks s.afterUnmask s.cycles
  rw [hself]
  rfl

/-- What CLI and TAP leave is the mark exactly when the I that they leave is 0. -/
theorem afterUnmask_of_setsMark {i : Instr} {s t : State} (h : exec i s = .next t) (hi : setsMark i = true) :
    t.afterUnmask = !t.cc.i := by
  rcases (setsMark_iff i).mp hi with rfl | rfl
  · rw [exec_cli] at h
    cases h
    rfl
  · rw [exec_tap] at h
    cases h
    rfl

/-! ### A step with more time behind it -/

/-- The state with this much more time behind it. -/
def State.later (s : State) (k : Nat) : State := { s with cycles := s.cycles + k }

/-- The outcome with this much more time behind its next state. -/
def Result.later (r : Result) (k : Nat) : Result :=
  match r with
  | .next t => .next (t.later k)
  | .fault f => .fault f
  | .refused why => .refused why

theorem exec_later (i : Instr) (s : State) (k : Nat) : exec i (s.later k) = Result.later (exec i s) k := by
  obtain ⟨t, ht, hbooks⟩ := exec_ignoresBooks i s
  obtain ⟨u, l, hu, heffect, _⟩ := exec_effect i s
  obtain rfl : u = t := by simpa [ht] using hu.symm
  have hmark : (if setsMark i then u.afterUnmask else s.afterUnmask) = u.afterUnmask := by
    split
    · rfl
    · next hi => exact (afterUnmask_of_exec ht (by simpa using hi)).symm
  have hlater : u.withBooks u.afterUnmask (s.cycles + k) = u.later k := by
    rw [State.later, heffect.cycles]
    rfl
  calc exec i (s.later k) = exec i (s.withBooks s.afterUnmask (s.cycles + k)) := rfl
    _ = .next (u.later k) := by rw [hbooks, hmark, hlater]
    _ = Result.later (exec i s) k := by rw [ht, Result.later]

theorem State.fetchOperands_later (s : State) (k : Nat) (a : Word) (n : Nat) :
    (s.later k).fetchOperands a n = s.fetchOperands a n := by
  induction n generalizing a with
  | zero => rfl
  | succ n ih => exact congrArg (s.fetchByte a :: ·) (ih (a + 1))

theorem State.fetchBytes_later (s : State) (k : Nat) : (s.later k).fetchBytes = s.fetchBytes :=
  congrArg (s.fetchByte s.pc :: ·) (s.fetchOperands_later k (s.pc + 1) _)

theorem State.pastInstr_later (s : State) (k : Nat) (i : Instr) :
    (s.later k).pastInstr i = (s.pastInstr i).later k := by
  simp only [State.pastInstr, State.fetchBytes_later]
  simp only [State.later, Nat.add_right_comm]

theorem State.interruptEntry_later (s : State) (k : Nat) :
    (s.later k).interruptEntry = s.interruptEntry.later k := by
  simp only [State.interruptEntry, State.later, Nat.add_right_comm]
  rfl

theorem State.resumeFromWait_later (s : State) (k : Nat) :
    (s.later k).resumeFromWait = s.resumeFromWait.later k := by
  simp only [State.resumeFromWait, State.later, Nat.add_right_comm]
  rfl

theorem State.waitStep_later (s : State) (k : Nat) (irq : Bool) :
    (s.later k).waitStep irq = (s.waitStep irq).later k := by
  by_cases h : irq = true ∧ s.cc.i = false
  · rw [State.waitStep_resume h, State.waitStep_resume (s := s.later k) h, State.resumeFromWait_later]
  · rw [State.waitStep_stay h, State.waitStep_stay (s := s.later k) h]
    simp only [State.later, Nat.add_right_comm]

/-- A step neither reads the time nor loses any of it: each of its four outcomes carries more time on. -/
theorem step_later (s : State) (k : Nat) : step (s.later k) = Result.later (step s) k := by
  have hbegin : (s.later k).beginStep = s.beginStep.later k := rfl
  have hwaiting : (s.beginStep.later k).waiting = s.beginStep.waiting := rfl
  have hrecognises : (s.beginStep.later k).recognises s.irq = s.beginStep.recognises s.irq := rfl
  have hirq : (s.later k).irq = s.irq := rfl
  unfold step
  simp only [hbegin, hwaiting, hrecognises, hirq, State.waitStep_later, State.interruptEntry_later,
    State.fetchBytes_later, State.pastInstr_later, exec_later]
  split
  · rfl
  · split
    · rfl
    · cases decode s.beginStep.fetchBytes <;> rfl

/-! ### Recognition -/

theorem aboutToFetch_iff {s : State} (hw : s.waiting = false) : AboutToFetch s ↔
    ¬(s.irq = true ∧ s.cc.i = false ∧ ¬(Config.irqDelayAfterUnmask = true ∧ s.afterUnmask = true)) := by
  have hrecognises : s.beginStep.recognises s.irq = true ↔
      s.irq = true ∧ s.cc.i = false ∧ ¬(Config.irqDelayAfterUnmask = true ∧ s.afterUnmask = true) := by
    simp [State.recognises, and_assoc, imp_iff_not_or]
  rw [AboutToFetch, and_iff_right hw, ← hrecognises, Bool.not_eq_true]

end Sys2Proof.Machine

namespace Sys2Proof.Proofs

open Sys2Proof.Machine

/-- Settles O18: recognition is R303's four conditions; the mark is cleared before the instruction, so it is there
afterwards only if CLI or TAP set it. -/
theorem requestsAreRecognisedBetweenInstructions : Obligations.RequestsAreRecognisedBetweenInstructions := by
  refine ⟨fun s hw => aboutToFetch_iff hw, fun i s t h => ?_⟩
  rw [← setsMark_iff]
  cases hi : setsMark i with
  | true => simp [afterUnmask_of_setsMark h hi]
  | false => simp [afterUnmask_of_exec h hi, Claims.readyFor]

/-- Settles O60: the step with more time behind it has the same outcome, with that much more time behind it. -/
theorem noStepReadsTheTime : Obligations.NoStepReadsTheTime := by
  intro s k
  have hlater : step { s with cycles := s.cycles + k } = Result.later (step s) k := step_later s k
  refine ⟨fun t ht => ?_, fun r hr => ?_⟩
  · rw [hlater, ht]
    rfl
  · rw [hlater, hr]
    rfl

end Sys2Proof.Proofs
end

section
/-! What an instruction and what a step can do to memory: a list of byte writes, at the addresses that the access list
names (20_memory.md R55), kept by RAM only (D15). From this follow the frame of every instruction, that ROM keeps its
contents, and that the model's invariant holds after every step. -/

namespace Sys2Proof.Machine

/-! ### Reads where memory has not changed -/

/-- What an address gives depends on memory at that address only, for data and for instruction fetch. -/
theorem readLocation_congr {map : Option MemoryMap} {m m' : Memory} {a : Word} (h : m'.get a.toNat = m.get a.toNat)
    (tick : Nat) (k : AccessKind) : readLocation map m' tick k a = readLocation map m tick k a := by
  simp only [readLocation, h]

/-- A ROM location reads as what it holds, at whatever step (R58). -/
theorem State.readByte_rom {s : State} {a : Word} (h : kindAt s.map a = .rom) : s.readByte a = s.mem.get a.toNat := by
  simp [State.readByte, readLocation, h, LocationKind.holdsData]

/-! ### An instruction -/

/-- All that an instruction that completes can have done to the memory and the inputs. -/
theorem effect_of_exec {i : Instr} {s t : State} (h : exec i s = .next t) :
    ∃ l, Effect s t l ∧ l.map Prod.fst = writtenAddresses i s := by
  obtain ⟨u, l, hu, heffect, hwritten⟩ := exec_effect i s
  obtain rfl : u = t := by simpa [hu] using h
  exact ⟨l, heffect, hwritten⟩

theorem Effect.reads_eq {s t : State} {l : List (Word × Byte)} (h : Effect s t l) (a : Word) :
    t.readByte a = (s.writeBytes l).readByte a ∧ t.fetchByte a = (s.writeBytes l).fetchByte a := by
  have hmap : t.map = (s.writeBytes l).map := by rw [h.map, State.writeBytes_map]
  have htick : t.tick = (s.writeBytes l).tick := by rw [h.tick, State.writeBytes_tick]
  exact ⟨State.readByte_congr hmap h.mem htick a, State.fetchByte_congr hmap h.mem htick a⟩

/-- Byte writes are not seen where there is no RAM. -/
theorem State.writeBytes_reads_not_ram {s : State} (l : List (Word × Byte)) {a : Word} (h : kindAt s.map a ≠ .ram) :
    (s.writeBytes l).readByte a = s.readByte a ∧ (s.writeBytes l).fetchByte a = s.fetchByte a := by
  simp only [State.readByte, State.fetchByte, State.writeBytes_map, State.writeBytes_tick,
    readLocation_congr (State.writeBytes_not_ram l h), and_self]

/-! ### A step -/

/-- A step changes memory by byte writes, and the map not at all. -/
structure StepWrites (s t : State) : Prop where
  map : t.map = s.map
  mem : ∃ l, t.mem = (s.writeBytes l).mem

theorem State.waitStep_mem (s : State) (irq : Bool) : (s.waitStep irq).mem = s.mem := by
  rcases s.waitStep_cases irq with h | h <;> rw [h]
  rfl

theorem State.waitStep_map (s : State) (irq : Bool) : (s.waitStep irq).map = s.map := by
  rcases s.waitStep_cases irq with h | h <;> rw [h]
  rfl

theorem State.writeBytes_mem_congr {s t : State} (hmap : t.map = s.map) (hmem : t.mem = s.mem)
    (l : List (Word × Byte)) : (t.writeBytes l).mem = (s.writeBytes l).mem := by
  induction l generalizing s t with
  | nil => exact hmem
  | cons e rest ih => exact ih hmap (by simp only [State.writeByte_mem, hmap, hmem])

/-- A wait writes nothing, an entry its frame, an instruction what its access list names. -/
theorem stepWrites_of_step {s t : State} (h : step s = .next t) : StepWrites s t := by
  rcases step_cases s with ⟨_, hs⟩ | ⟨_, _, hs⟩ | ⟨_, _, i, _, _, hs⟩ | ⟨_, _, _, hs⟩ <;> rw [hs] at h
  · cases h
    exact ⟨State.waitStep_map .., [], State.waitStep_mem ..⟩
  · cases h
    refine ⟨by simp [State.interruptEntry, State.takeInterrupt], s.frame, ?_⟩
    rw [State.interruptEntry, State.takeInterrupt_eq]
    exact State.writeBytes_mem_congr rfl rfl s.frame
  · obtain ⟨l, heffect, _⟩ := effect_of_exec h
    have hready : ((s.beginStep.pastInstr i).writeBytes l).mem = (s.writeBytes l).mem :=
      State.writeBytes_mem_congr (s := s) (t := s.beginStep.pastInstr i) rfl rfl l
    exact ⟨heffect.map, l, heffect.mem.trans hready⟩
  · cases h

theorem StepWrites.wf {s t : State} (h : StepWrites s t) (hwf : s.mem.wf = true) : t.mem.wf = true := by
  obtain ⟨_, l, hmem⟩ := h
  rw [hmem]
  exact State.writeBytes_wf l hwf

theorem StepWrites.mem_not_ram {s t : State} (h : StepWrites s t) {a : Word} (ha : kindAt s.map a ≠ .ram) :
    t.mem.get a.toNat = s.mem.get a.toNat := by
  obtain ⟨_, l, hmem⟩ := h
  rw [hmem, State.writeBytes_not_ram l ha]

/-! ### The mark of CLI and TAP on a waiting machine -/

/-- The mark is never on a waiting machine (60_exceptions.md R305, last sentence; entry 24). -/
def UnmarkedWait (s : State) : Prop := s.waiting = true → s.afterUnmask = false

/-- Only WAI makes a machine wait, and WAI leaves the mark as it is. -/
theorem unmarkedWait_of_exec {i : Instr} {s t : State} (h : exec i s = .next t) (hw : s.waiting = false)
    (hmark : s.afterUnmask = false) : UnmarkedWait t := by
  intro htw
  have hwai : mnemonicOf i = .wai := (writes_of_exec h).eq_wai (by simp [htw, hw])
  have hi : setsMark i = false := by
    rw [← Bool.not_eq_true, setsMark_iff]
    rintro (rfl | rfl) <;> cases hwai
  rw [afterUnmask_of_exec h hi, hmark]

theorem State.waitStep_unmarkedWait {s : State} (h : UnmarkedWait s) (irq : Bool) : UnmarkedWait (s.waitStep irq) := by
  rcases s.waitStep_cases irq with he | he <;> rw [he]
  · intro hw
    cases hw
  · exact h

theorem unmarkedWait_of_step {s t : State} (h : UnmarkedWait s) (ht : step s = .next t) : UnmarkedWait t := by
  rcases step_cases s with ⟨_, hs⟩ | ⟨_, _, hs⟩ | ⟨hw, _, i, _, _, hs⟩ | ⟨_, _, _, hs⟩ <;> rw [hs] at ht
  · cases ht
    exact State.waitStep_unmarkedWait (s := s.beginStep) h s.irq
  · cases ht
    exact fun _ => rfl
  · exact unmarkedWait_of_exec ht hw rfl
  · cases ht

end Sys2Proof.Machine

namespace Sys2Proof.Proofs

open Sys2Proof.Machine

/-- Settles O21: byte writes keep memory canonical; a machine begins to wait only by WAI, before which the step has
cleared the mark. -/
theorem stepKeepsTheInvariant : Obligations.StepKeepsTheInvariant := by
  rintro s t ⟨hwf, hmark⟩ ht
  exact ⟨(stepWrites_of_step ht).wf hwf, unmarkedWait_of_step hmark ht⟩

/-- Settles O22: power-on takes the image as it is and does not wait; reset is power-on with an empty image. -/
theorem resetMeetsTheInvariant : Obligations.ResetMeetsTheInvariant := by
  have hpowerOn : ∀ resetPc map image line, Memory.wf image = true → Inv (State.powerOn resetPc map image line) :=
    fun _ _ _ _ hwf => ⟨hwf, fun _ => rfl⟩
  exact ⟨hpowerOn _ _ [] _ rfl, hpowerOn⟩

/-- Settles O24: every instruction completes, its effect on memory apart from its map, input and counters. -/
theorem everyInstructionCompletes : Obligations.EveryInstructionCompletes := by
  intro i s
  obtain ⟨t, l, ht, heffect, _⟩ := exec_effect i s
  exact ⟨t, ht, heffect.map, heffect.irqLine, heffect.tick, heffect.cycles⟩

/-- Settles O25: an address that is not listed gets no write, and one that is not RAM keeps none. -/
theorem onlyListedAddressesAreWritten : Obligations.OnlyListedAddressesAreWritten := by
  intro i s t a ht ha
  obtain ⟨l, heffect, hwritten⟩ := effect_of_exec ht
  obtain ⟨hread, hfetch⟩ := heffect.reads_eq a
  rw [hread, hfetch]
  rcases ha with hlisted | hram
  · exact State.writeBytes_other s (hwritten ▸ hlisted)
  · exact State.writeBytes_reads_not_ram l hram

/-- Settles O26: the byte writes of a step leave what a ROM location holds, which is all that it reads as. -/
theorem readOnlyMemoryKeepsItsContents : Obligations.ReadOnlyMemoryKeepsItsContents := by
  intro s t a ht
  have hwrites := stepWrites_of_step ht
  refine ⟨hwrites.map, fun hrom => ?_⟩
  have hmem : t.mem.get a.toNat = s.mem.get a.toNat := hwrites.mem_not_ram (by simp [hrom])
  exact ⟨hmem, by rw [State.readByte_rom (hwrites.map ▸ hrom), State.readByte_rom hrom, hmem]⟩

end Sys2Proof.Proofs
end

section
/-! The interrupt frame (47_interrupt_instructions.md R290 to R292, 60_exceptions.md R301, R304, R309): what SWI, WAI and
the entry at a step leave behind, each as a list of byte writes and an equation for the rest; the seven bytes as they are
read back; and RTI, which needs no more than these bytes and SP. -/

namespace Sys2Proof.Machine

open Sys2Proof.Claims

/-! ### The meaning of each opcode -/

theorem exec_swi (s : State) : exec .swi s = .next (s.takeInterrupt swiPointer) := rfl
theorem exec_wai (s : State) : exec .wai s = .next { s.pushFrame with waiting := true } := rfl
theorem exec_rti (s : State) : exec .rti s = .next s.pullFrame := rfl

/-! ### Frames pushed -/

theorem effect_takeInterrupt (s : State) (pointer : Word) : Effect s (s.takeInterrupt pointer) (frameBytes s) := by
  rw [State.takeInterrupt_eq, State.writeBytes_eq]
  exact ⟨rfl, rfl, rfl, rfl, rfl⟩

/-- The pointer is read from memory as the pushes have left it. -/
theorem butMemory_takeInterrupt (s : State) (pointer : Word) :
    butMemory s (s.takeInterrupt pointer) = { s with
      sp := s.sp - 7, cc := { s.cc with i := true }, pc := (s.takeInterrupt pointer).readWord pointer } := by
  rw [State.takeInterrupt_eq, State.writeBytes_eq]
  rfl

/-- The software interrupt pointer is 0xFFFA, 0xFFFB (R290, D1). -/
theorem State.readWord_swiPointer (s : State) : s.readWord swiPointer = wordOf (s.readByte 0xFFFA) (s.readByte 0xFFFB) :=
  rfl

theorem effect_wait (s : State) : Effect s { s.pushFrame with waiting := true } (frameBytes s) := by
  rw [State.pushFrame_eq, State.writeBytes_eq]
  exact ⟨rfl, rfl, rfl, rfl, rfl⟩

theorem butMemory_wait (s : State) :
    butMemory s { s.pushFrame with waiting := true } = { s with sp := s.sp - 7, waiting := true } := by
  rw [State.pushFrame_eq, State.writeBytes_eq]
  rfl

/-! ### The entry at a step -/

theorem step_of_recognised {s : State} (hw : s.waiting = false) (hr : s.beginStep.recognises s.irq = true) :
    step s = .next s.beginStep.interruptEntry := by
  simp [step, hw, hr]

/-- Beside taking the interrupt the entry changes only the mark and the time, which no read sees. -/
theorem storesBytes_interruptEntry (s : State) : StoresBytes s s.interruptEntry (frameBytes s) :=
  (effect_takeInterrupt s irqPointer).storesBytes

theorem readWord_interruptEntry (s : State) (a : Word) :
    s.interruptEntry.readWord a = (s.takeInterrupt irqPointer).readWord a := rfl

theorem butMemory_with_books (s t : State) (mark : Bool) (time : Nat) :
    butMemory s { t with afterUnmask := mark, cycles := time } =
      { butMemory s t with afterUnmask := mark, cycles := time } := rfl

theorem butMemory_interruptEntry (s : State) :
    butMemory s s.interruptEntry = { s with
      sp := s.sp - 7, cc := { s.cc with i := true }, pc := s.interruptEntry.readWord irqPointer
      afterUnmask := false, cycles := s.cycles + Config.irqEntryCycles } := by
  rw [readWord_interruptEntry, State.interruptEntry, butMemory_with_books, butMemory_takeInterrupt]

/-! ### A frame read back -/

/-- The seven addresses of a frame are different, also where it wraps below 0x0000. -/
theorem frameBytes_nodup (s : State) : ((frameBytes s).map Prod.fst).Nodup := by
  have hinjective : Function.Injective fun k : Word => s.sp - k := fun j k h => by
    have hjk : s.sp - j = s.sp - k := h
    bv_omega
  have hoffsets : (frameBytes s).map Prod.fst = ([0, 1, 2, 3, 4, 5, 6] : List Word).map fun k => s.sp - k := by
    simp [frameBytes]
  rw [hoffsets]
  exact List.Nodup.map hinjective (by decide)

/-- A byte stored in RAM reads back when it is the only one stored at its address. -/
theorem readByte_of_storesBytes {s t : State} {l : List (Word × Byte)} (h : StoresBytes s t l)
    (hl : (l.map Prod.fst).Nodup) {e : Word × Byte} (he : e ∈ l) (hram : kindAt s.map e.1 = .ram) :
    t.readByte e.1 = e.2 := by
  have hlast := h e.1
  cases hfind : l.reverse.find? fun d => d.1 == e.1 with
  | none =>
    have hne := List.find?_eq_none.mp hfind e (List.mem_reverse.mpr he)
    exact absurd (beq_self_eq_true e.1) hne
  | some d =>
    have hd : d ∈ l := List.mem_reverse.mp (List.mem_of_find?_eq_some hfind)
    have haddress : d.1 = e.1 := by simpa using List.find?_some hfind
    obtain rfl : d = e := List.inj_on_of_nodup_map hl hd he haddress
    rw [hfind] at hlast
    exact hlast hram

/-- `t` has the frame of `s` on its stack, byte by byte, and SP below it. -/
structure LeavesFrame (s t : State) : Prop where
  sp : t.sp = s.sp - 7
  bytes : ∀ e ∈ frameBytes s, t.readByte e.1 = e.2

theorem frame_kindAt_ram {s : State} (h : StackIsRam s 7) : ∀ e ∈ frameBytes s, kindAt s.map e.1 = .ram := by
  have hfirst : kindAt s.map s.sp = .ram := by simpa using h 0 (by decide)
  simp only [frameBytes, List.forall_mem_cons]
  exact ⟨hfirst, h 1 (by decide), h 2 (by decide), h 3 (by decide), h 4 (by decide), h 5 (by decide), h 6 (by decide),
    fun _ hmem => by cases hmem⟩

theorem leavesFrame_of_storesBytes {s t : State} (hram : StackIsRam s 7) (hsp : t.sp = s.sp - 7)
    (h : StoresBytes s t (frameBytes s)) : LeavesFrame s t :=
  ⟨hsp, fun e he => readByte_of_storesBytes h (frameBytes_nodup s) he (frame_kindAt_ram hram e he)⟩

/-- SWI, WAI and the entry at a step leave the same frame. -/
theorem leavesFrame_of_entry {s t : State} (hram : StackIsRam s 7)
    (h : exec .swi s = .next t ∨ exec .wai s = .next t ∨
      (s.waiting = false ∧ s.beginStep.recognises s.irq = true ∧ step s = .next t)) : LeavesFrame s t := by
  rcases h with hswi | hwai | ⟨hw, hr, hstep⟩
  · rw [exec_swi] at hswi
    cases hswi
    exact leavesFrame_of_storesBytes hram (by simp [State.takeInterrupt]) (effect_takeInterrupt s _).storesBytes
  · rw [exec_wai] at hwai
    cases hwai
    exact leavesFrame_of_storesBytes hram (by simp) (effect_wait s).storesBytes
  · rw [step_of_recognised hw hr] at hstep
    cases hstep
    have hbegin : LeavesFrame s.beginStep s.beginStep.interruptEntry :=
      leavesFrame_of_storesBytes hram (by simp [State.interruptEntry, State.takeInterrupt])
        (storesBytes_interruptEntry s.beginStep)
    exact ⟨hbegin.sp, hbegin.bytes⟩

/-! ### RTI -/

/-- The return undoes an entry: it needs of the state `w` only SP and the seven bytes as the entry left them. -/
theorem pullFrame_of_leavesFrame {s t w : State} (h : LeavesFrame s t) (hsp : w.sp = t.sp)
    (hbytes : ∀ k ∈ ([1, 2, 3, 4, 5, 6, 7] : List Word), w.readByte (w.sp + k) = t.readByte (w.sp + k)) :
    w.pullFrame = { w with accA := s.accA, accB := s.accB, ix := s.ix, cc := s.cc, sp := s.sp, pc := s.pc } := by
  have hw : w.sp = s.sp - 7 := hsp.trans h.sp
  have hread : ∀ k ∈ ([1, 2, 3, 4, 5, 6, 7] : List Word), ∀ v, (s.sp - (7 - k), v) ∈ frameBytes s →
      w.readByte (w.sp + k) = v := by
    intro k hk v hv
    have haddress : w.sp + k = s.sp - (7 - k) := by
      rw [hw]
      bv_omega
    rw [hbytes k hk, haddress, h.bytes _ hv]
  have hcc := hread 1 (by decide) s.cc.toByte (by simp [frameBytes])
  have hb := hread 2 (by decide) s.accB (by simp [frameBytes])
  have ha := hread 3 (by decide) s.accA (by simp [frameBytes])
  have hixh := hread 4 (by decide) (hi8 s.ix) (by simp [frameBytes])
  have hixl := hread 5 (by decide) (lo8 s.ix) (by simp [frameBytes])
  have hpch := hread 6 (by decide) (hi8 s.pc) (by simp [frameBytes])
  have hpcl := hread 7 (by decide) (lo8 s.pc) (by simp [frameBytes])
  have hback : w.sp + 7 = s.sp := by
    rw [hw]
    bv_omega
  rw [State.pullFrame_eq, hcc, hb, ha, hixh, hixl, hpch, hpcl, hback, CC.ofByte_toByte, wordOf_hi8_lo8, wordOf_hi8_lo8]

end Sys2Proof.Machine

namespace Sys2Proof.Proofs

open Sys2Proof.Machine Sys2Proof.Claims

/-- Settles O52: the effect on memory is the frame; PC is read from the state after it. -/
theorem swiStacksAndVectors : Obligations.SwiStacksAndVectors :=
  ⟨⟨rfl, rfl⟩, fun s => ⟨s.takeInterrupt swiPointer, exec_swi s, (effect_takeInterrupt s swiPointer).storesBytes, by
    rw [butMemory_takeInterrupt, State.readWord_swiPointer]⟩⟩

/-- Settles O53: the effect on memory is the frame; PC and CC stay, as WAI enters no handler. -/
theorem waiStacksAndWaits : Obligations.WaiStacksAndWaits :=
  ⟨⟨rfl, rfl⟩, fun s => ⟨_, exec_wai s, (effect_wait s).storesBytes, butMemory_wait s⟩⟩

/-- Settles O54: seven pulls; CC is taken from bits 5 to 0 of the first. -/
theorem rtiRestoresTheFrame : Obligations.RtiRestoresTheFrame :=
  ⟨⟨rfl, rfl⟩, fun s => by rw [exec_rti, State.pullFrame_eq, CC.ofByte]⟩

/-- Settles O16: the entry is the operation of SWI with the other pointer, in the state after one sample. -/
theorem interruptEntryStacksAndVectors : Obligations.InterruptEntryStacksAndVectors := by
  intro s hw hirq hi hdelay
  have hr : s.beginStep.recognises s.irq = true := by
    simpa [State.recognises, hirq, hi, imp_iff_not_or] using hdelay
  refine ⟨s.beginStep.interruptEntry, step_of_recognised hw hr, storesBytes_interruptEntry s.beginStep, ?_⟩
  calc butMemory s s.beginStep.interruptEntry
      = butMemory s.beginStep s.beginStep.interruptEntry := rfl
    _ = _ := by rw [butMemory_interruptEntry, State.readWord_irqPointer]; rfl

/-- Settles O55: the three entries leave the same frame, which RTI takes back byte by byte. -/
theorem returnFromInterruptUndoesTheEntry : Obligations.ReturnFromInterruptUndoesTheEntry := by
  intro s t w hram hentry hsp hbytes
  rw [exec_rti, pullFrame_of_leavesFrame (leavesFrame_of_entry hram hentry) hsp hbytes]

end Sys2Proof.Proofs
end

section
/-! Where a step stops (30_encoding.md R91, 60_exceptions.md R310, D4): the decoder refuses the 59 unassigned first bytes
whatever follows them, and a step is refused exactly where it fetches one. -/

namespace Sys2Proof

/-- An assigned first byte is not refused as illegal, even where its operand bytes are missing. -/
theorem decode_illegalOpcode_iff (op : Byte) (rest : List Byte) :
    decode (op :: rest) = .rejected (.illegalOpcode op) ↔ op ∈ unassignedOpcodes := by
  rcases decode_cons_cases op rest with
    ⟨hop, _, hd⟩ | ⟨i, hop, _, _, hd⟩ | ⟨f, hop, _, _, ⟨_, hd⟩ | ⟨b, r, _, hd⟩⟩ |
    ⟨f, hop, _, _, ⟨_, hd⟩ | ⟨hi, lo, r, _, hd⟩⟩ <;> simp [hd, hop]

end Sys2Proof

namespace Sys2Proof.Machine

open Sys2Proof.Claims

theorem step_of_unassigned {s : State} (hs : AboutToFetch s) (hop : s.beginStep.fetchByte s.pc ∈ unassignedOpcodes) :
    step s = .refused (.illegalOpcode (s.beginStep.fetchByte s.pc)) := by
  obtain ⟨hwaiting, hquiet⟩ := hs
  have hdecode : decode s.beginStep.fetchBytes = .rejected (.illegalOpcode (s.beginStep.fetchByte s.pc)) :=
    (decode_illegalOpcode_iff _ _).mpr hop
  simp [step, hwaiting, hquiet, hdecode]

end Sys2Proof.Machine

namespace Sys2Proof.Proofs

open Sys2Proof.Machine

/-- Settles O4: the decoder refuses the cells that the map leaves empty; a step refuses what its decoder refuses. -/
theorem unassignedFirstBytesAreRefused : Obligations.UnassignedFirstBytesAreRefused :=
  ⟨decode_illegalOpcode_iff, fun _ hs hop => step_of_unassigned hs hop⟩

/-- Settles O15: a wait and an entry go on, and so does every instruction; what is left is the refusal. -/
theorem stepStopsOnlyAtUnassignedBytes : Obligations.StepStopsOnlyAtUnassignedBytes := by
  intro s
  rcases step_cases s with ⟨_, hs⟩ | ⟨_, _, hs⟩ | ⟨_, _, i, _, _, hs⟩ | ⟨hw, _, hop, hs⟩
  · exact .inl ⟨_, hs⟩
  · exact .inl ⟨_, hs⟩
  · obtain ⟨t, _, ht, _⟩ := exec_effect i (s.beginStep.pastInstr i)
    exact .inl ⟨t, hs.trans ht⟩
  · exact .inr ⟨hw, hop, hs⟩

end Sys2Proof.Proofs
end

section
/-! A byte written to RAM is what the address reads as and is fetched as, also by the very next step (20_memory.md R62,
R65, D13); and the effective addresses at which instructions read and write (30_encoding.md R85 to R87). -/

namespace Sys2Proof.Machine

/-- The opcode that a step is given is the byte at PC. -/
theorem State.fetchBytes_head? (s : State) : s.fetchBytes.head? = some (s.fetchByte s.pc) := rfl

/-- RAM gives its contents at every step: the step counter is no part of what is fetched. -/
theorem State.fetchByte_beginStep_ram {s : State} {a : Word} (h : kindAt s.map a = .ram) :
    s.beginStep.fetchByte a = s.fetchByte a := by
  simp [State.fetchByte, readLocation, h, LocationKind.holdsData]

theorem fetchByte_opSta {r : Acc} {e : Ea} {s : State} (h : kindAt s.map (s.ea e) = .ram) :
    (opSta r e s).fetchByte (s.ea e) = s.acc r := by
  have hfetch : (opSta r e s).fetchByte (s.ea e) = (s.writeByte (s.ea e) (s.acc r)).fetchByte (s.ea e) := rfl
  rw [hfetch, State.fetchByte_writeByte, if_pos ⟨rfl, h⟩]

theorem State.toNat_ea_ind (s : State) (b : Byte) : (s.ea (.ind b)).toNat = (s.ix.toNat + b.toNat) % 65536 := by
  rw [State.ea, BitVec.toNat_add, toNat_zext16]

end Sys2Proof.Machine

namespace Sys2Proof.Proofs

open Sys2Proof.Machine

/-- Settles O9: read and fetch after a write, at the address, at another one, and where the write is not kept. -/
theorem writtenByteReadsBack : Obligations.WrittenByteReadsBack := by
  intro s a b v
  refine ⟨fun hram => ?_, fun hne => ?_, s.writeByte_not_ram v⟩
  · simp only [State.readByte_writeByte, State.fetchByte_writeByte, hram, and_self, if_true]
  · simp only [State.readByte_writeByte, State.fetchByte_writeByte, hne, false_and, if_false, and_self]

/-- Settles O11: the zero-extended byte is the byte's number; both kinds of IND and EXT compute alike. -/
theorem effectiveAddressesByMode : Obligations.EffectiveAddressesByMode :=
  fun s => ⟨toNat_zext16, fun _ => ⟨rfl, rfl⟩, fun b => ⟨s.toNat_ea_ind b, rfl⟩⟩

/-- Settles O12: STA leaves PC, and the byte it writes there is RAM's, so the next step fetches it. -/
theorem storeIntoCodeIsFetchedNext : Obligations.StoreIntoCodeIsFetchedNext := by
  intro r e s hram hpc
  have ht : (opSta r e s).pc = s.pc := rfl
  refine ⟨opSta r e s, exec_staForm r e s, ht, ?_⟩
  rw [State.fetchBytes_head?, State.beginStep_pc, ht, hpc, State.fetchByte_beginStep_ram (s := opSta r e s) hram,
    fetchByte_opSta hram]

end Sys2Proof.Proofs
end

section
/-! CPX (43_index_and_stack_pointer.md R201, D11): its flags are those of two byte subtractions, of the high bytes and of
the low bytes, and both differences are zero exactly when the words are equal. -/

namespace Sys2Proof.Machine

open Sys2Proof.Claims

/-- Two words are equal exactly when both their bytes are. -/
theorem word_eq_iff_bytes (w m : Word) : w = m ↔ hi8 w = hi8 m ∧ lo8 w = lo8 m := by
  refine ⟨fun h => by rw [h]; exact ⟨rfl, rfl⟩, fun ⟨hhi, hlo⟩ => ?_⟩
  rw [← wordOf_hi8_lo8 w, hhi, hlo, wordOf_hi8_lo8]

/-- N and V come from the high bytes alone; Z from both (R201). -/
theorem CC.ofIndexCompare_eq (c : CC) (ix m : Word) :
    c.ofIndexCompare ix m =
      { c with
        n := (differenceCC c (hi8 ix) (hi8 m) (hi8 ix - hi8 m)).n
        v := (differenceCC c (hi8 ix) (hi8 m) (hi8 ix - hi8 m)).v
        z := decide (ix = m) } := by
  have hhigh : c.ofDifference (sub8 (hi8 ix) (hi8 m) false) = differenceCC c (hi8 ix) (hi8 m) (hi8 ix - hi8 m) := by
    rw [CC.ofDifference_eq_differenceCC, sub8_val_no_borrow]
  have hz : ((sub8 (hi8 ix) (hi8 m) false).z && (sub8 (lo8 ix) (lo8 m) false).z) = decide (ix = m) := by
    rw [Bool.eq_iff_iff, Bool.and_eq_true, sub8_z_iff_eq, sub8_z_iff_eq, decide_eq_true_iff, word_eq_iff_bytes]
  rw [CC.ofIndexCompare, ← hhigh, ← hz]
  rfl

end Sys2Proof.Machine

namespace Sys2Proof.Proofs

open Sys2Proof.Machine

/-- Settles O40: the flags of the two byte subtractions, as the source's formulae and as the equality of the words. -/
theorem cpxComparesTheIndexRegister : Obligations.CpxComparesTheIndexRegister :=
  ⟨load16Encodings_of_operatorOf (m := .cpx) rfl, fun src s => by rw [exec_cpxForm, opCpx, CC.ofIndexCompare_eq]⟩

end Sys2Proof.Proofs
end

section
/-! The reset sequence (70_reset_and_hazards.md R340, D9): PC is read as any data is, so it is what the platform's image
holds where the reset pointer lies in RAM or ROM. -/

namespace Sys2Proof.Machine

/-- RAM and ROM read as what they hold. -/
theorem readLocation_of_holdsData {map : Option MemoryMap} {a : Word} (h : (kindAt map a).holdsData = true)
    (m : Memory) (tick : Nat) (k : AccessKind) : readLocation map m tick k a = m.get a.toNat :=
  if_pos h

/-- The reset pointer is 0xFFFE, 0xFFFF (R340). -/
theorem State.powerOn_pc_pointer (map : Option MemoryMap) (image : Memory) (line : List Bool) :
    (State.powerOn none map image line).pc =
      wordOf (readLocation map image 0 .data 0xFFFE) (readLocation map image 0 .data 0xFFFF) := rfl

end Sys2Proof.Machine

namespace Sys2Proof.Proofs

open Sys2Proof.Machine

/-- Settles O23: each field is what power-on gives it; where the pointer's two addresses hold data, the image is read. -/
theorem resetSetsMaskAndLoadsPc : Obligations.ResetSetsMaskAndLoadsPc := by
  intro resetPc map image line
  refine ⟨rfl, rfl, rfl, rfl, rfl, ?_, ?_⟩
  · rintro p rfl
    exact State.powerOn_pc_given ..
  · rintro rfl
    refine ⟨State.powerOn_pc_pointer .., fun hhigh hlow => ?_⟩
    rw [State.powerOn_pc_pointer, readLocation_of_holdsData hhigh, readLocation_of_holdsData hlow]
    rfl

end Sys2Proof.Proofs
end

section
/-! The table of execution times and lengths (70_reset_and_hazards.md R344): one lemma per row, over the mnemonics of the
assembler's table whose forms share the row's figures. -/

namespace Sys2Proof.Machine

/-- Execution time and length, as the columns of R344 give them. -/
abbrev Takes (i : Instr) (cycles bytes : Nat) : Prop := cyclesOf i = cycles ∧ (encode i).length = bytes

section
variable {m : Mnemonic} (b : Byte) (w : Word)

theorem takes_dual {f : Acc → Src8 → Instr} (hm : operatorOf m = .dual f) (r : Acc) :
    Takes (f r (.imm b)) 2 2 ∧ Takes (f r (.mem (.dir b))) 3 2 ∧ Takes (f r (.mem (.ext w))) 4 3 ∧
      Takes (f r (.mem (.ind b))) 5 2 := by
  cases m <;> cases hm <;> cases r <;> exact ⟨⟨rfl, rfl⟩, ⟨rfl, rfl⟩, ⟨rfl, rfl⟩, ⟨rfl, rfl⟩⟩

theorem takes_staForm (r : Acc) :
    Takes (staForm r (.dir b)) 4 2 ∧ Takes (staForm r (.ext w)) 5 3 ∧ Takes (staForm r (.ind b)) 6 2 := by
  cases r <;> exact ⟨⟨rfl, rfl⟩, ⟨rfl, rfl⟩, ⟨rfl, rfl⟩⟩

theorem takes_single {f : Place → Instr} (hm : operatorOf m = .single f) (r : Acc) :
    Takes (f (.acc r)) 2 1 ∧ Takes (f (.mem (.ext w))) 6 3 ∧ Takes (f (.mem (.ind b))) 7 2 := by
  cases m <;> cases hm <;> cases r <;> exact ⟨⟨rfl, rfl⟩, ⟨rfl, rfl⟩, ⟨rfl, rfl⟩⟩

theorem takes_pshForm_pulForm (r : Acc) : Takes (pshForm r) 4 1 ∧ Takes (pulForm r) 4 1 := by
  cases r <;> exact ⟨⟨rfl, rfl⟩, ⟨rfl, rfl⟩⟩

theorem takes_load16 {f : Src16 → Instr} (hm : operatorOf m = .load16 f) :
    Takes (f (.imm w)) 3 3 ∧ Takes (f (.mem (.dir b))) 4 2 ∧ Takes (f (.mem (.ext w))) 5 3 ∧
      Takes (f (.mem (.ind b))) 6 2 := by
  cases m <;> cases hm <;> exact ⟨⟨rfl, rfl⟩, ⟨rfl, rfl⟩, ⟨rfl, rfl⟩, ⟨rfl, rfl⟩⟩

theorem takes_store16 {f : Ea → Instr} (hm : operatorOf m = .store16 f) :
    Takes (f (.dir b)) 5 2 ∧ Takes (f (.ext w)) 6 3 ∧ Takes (f (.ind b)) 7 2 := by
  cases m <;> cases hm <;> exact ⟨⟨rfl, rfl⟩, ⟨rfl, rfl⟩, ⟨rfl, rfl⟩⟩

end

theorem takes_branch {m : Mnemonic} {f : Byte → Instr} (hm : operatorOf m = .branch f) (rel : Byte) :
    Takes (f rel) (branchTime m) 2 := by
  obtain ⟨hencode, htime⟩ := branchEncoding_of_operatorOf hm rel
  exact ⟨htime, by rw [hencode]; rfl⟩

/-! The forms that a row of R344 lists are those of the mnemonics of one table. -/

theorem dual_forms : ∀ f ∈ [adcForm, addForm, andForm, bitForm, cmpForm, eorForm, ldaForm, oraForm, sbcForm, subForm],
    ∃ m, operatorOf m = .dual f := by
  simp only [List.forall_mem_cons]
  exact ⟨⟨.adc, rfl⟩, ⟨.add, rfl⟩, ⟨.and, rfl⟩, ⟨.bit, rfl⟩, ⟨.cmp, rfl⟩, ⟨.eor, rfl⟩, ⟨.lda, rfl⟩, ⟨.ora, rfl⟩,
    ⟨.sbc, rfl⟩, ⟨.sub, rfl⟩, List.forall_mem_nil _⟩

theorem single_forms : ∀ f ∈ [aslForm, asrForm, clrForm, comForm, decForm, incForm, lsrForm, negForm, rolForm, rorForm,
    tstForm], ∃ m, operatorOf m = .single f := by
  simp only [List.forall_mem_cons]
  exact ⟨⟨.asl, rfl⟩, ⟨.asr, rfl⟩, ⟨.clr, rfl⟩, ⟨.com, rfl⟩, ⟨.dec, rfl⟩, ⟨.inc, rfl⟩, ⟨.lsr, rfl⟩, ⟨.neg, rfl⟩,
    ⟨.rol, rfl⟩, ⟨.ror, rfl⟩, ⟨.tst, rfl⟩, List.forall_mem_nil _⟩

theorem load16_forms : ∀ f ∈ [cpxForm, ldsForm, ldxForm], ∃ m, operatorOf m = .load16 f := by
  simp only [List.forall_mem_cons]
  exact ⟨⟨.cpx, rfl⟩, ⟨.lds, rfl⟩, ⟨.ldx, rfl⟩, List.forall_mem_nil _⟩

theorem store16_forms : ∀ f ∈ [stsForm, stxForm], ∃ m, operatorOf m = .store16 f := by
  simp only [List.forall_mem_cons]
  exact ⟨⟨.sts, rfl⟩, ⟨.stx, rfl⟩, List.forall_mem_nil _⟩

/-- Every branch but BSR. -/
theorem branch_forms : ∀ f ∈ [Instr.bra, .bcc, .bcs, .beq, .bge, .bgt, .bhi, .ble, .bls, .blt, .bmi, .bne, .bpl, .bvc,
    .bvs], ∃ m, operatorOf m = .branch f ∧ branchTime m = 4 := by
  simp only [List.forall_mem_cons]
  exact ⟨⟨.bra, rfl, rfl⟩, ⟨.bcc, rfl, rfl⟩, ⟨.bcs, rfl, rfl⟩, ⟨.beq, rfl, rfl⟩, ⟨.bge, rfl, rfl⟩, ⟨.bgt, rfl, rfl⟩,
    ⟨.bhi, rfl, rfl⟩, ⟨.ble, rfl, rfl⟩, ⟨.bls, rfl, rfl⟩, ⟨.blt, rfl, rfl⟩, ⟨.bmi, rfl, rfl⟩, ⟨.bne, rfl, rfl⟩,
    ⟨.bpl, rfl, rfl⟩, ⟨.bvc, rfl, rfl⟩, ⟨.bvs, rfl, rfl⟩, List.forall_mem_nil _⟩

theorem takes_inherent : ∀ i ∈ [Instr.aba, .cba, .sba, .tab, .tba, .daa, .clc, .cli, .clv, .sec, .sei, .sev, .tap, .tpa,
    .nop], Takes i 2 1 := by decide

theorem takes_inherent_pointer : ∀ i ∈ [Instr.des, .dex, .ins, .inx, .tsx, .txs], Takes i 4 1 := by decide

theorem takes_jmpForm_jsrForm (b : Byte) (w : Word) :
    Takes (jmpForm (.ext w)) 3 3 ∧ Takes (jmpForm (.ind b)) 4 2 ∧ Takes (jsrForm (.ext w)) 9 3 ∧
      Takes (jsrForm (.ind b)) 8 2 :=
  ⟨⟨rfl, rfl⟩, ⟨rfl, rfl⟩, ⟨rfl, rfl⟩, ⟨rfl, rfl⟩⟩

end Sys2Proof.Machine

namespace Sys2Proof.Proofs

open Sys2Proof.Machine

/-- Settles O57: the figures of a row of R344 are those of the table of operands that its mnemonics share. -/
theorem executionTimesAndLengths : Obligations.ExecutionTimesAndLengths := by
  refine ⟨?dual, fun r b w => takes_staForm b w r, ?single, takes_pshForm_pulForm, ?load16, ?store16, ?branch,
    takes_branch (m := .bsr) rfl, takes_jmpForm_jsrForm, takes_inherent, takes_inherent_pointer, ⟨rfl, rfl⟩, ⟨rfl, rfl⟩,
    ⟨rfl, rfl⟩, ⟨rfl, rfl⟩⟩
  case dual =>
    intro f hf r b w
    obtain ⟨m, hm⟩ := dual_forms f hf
    exact takes_dual b w hm r
  case single =>
    intro f hf r b w
    obtain ⟨m, hm⟩ := single_forms f hf
    exact takes_single b w hm r
  case load16 =>
    intro f hf b w
    obtain ⟨m, hm⟩ := load16_forms f hf
    exact takes_load16 b w hm
  case store16 =>
    intro f hf b w
    obtain ⟨m, hm⟩ := store16_forms f hf
    exact takes_store16 b w hm
  case branch =>
    intro f hf rel
    obtain ⟨m, hm, htime⟩ := branch_forms f hf
    exact htime ▸ takes_branch hm rel

end Sys2Proof.Proofs
end
